-- ==== Sys2Proof/Word.lean ====
section
/-! DEFINITION. The widths of the block (00_scope.md R4) and the channel numbers (R5): a word, a byte, the five channels, and
one value for each channel. -/

namespace Sys2Proof

/-- A 16-bit register value (W of R4). -/
abbrev Word := BitVec 16

/-- An 8-bit port value (SW of R4, and the two halves of a register, R42). -/
abbrev Byte := BitVec 8

/-- A 5-bit channel mask, format CM (R62). -/
abbrev Mask := BitVec 5

/-- A channel, by its hardware number 1 to 5 (R5). The external source and gate lines have the same five numbers. -/
inductive Chan where
  | c1 | c2 | c3 | c4 | c5
deriving DecidableEq, Repr

/-- One value for each channel: the files `cnt[n]`, `load[n]`, … of R10. -/
structure PerChan (α : Type) where
  c1 : α
  c2 : α
  c3 : α
  c4 : α
  c5 : α
deriving DecidableEq, Repr

end Sys2Proof
end

