-- ==== Sys2Proof/Config.lean ====
section
/-! DEFINITION. What is fixed for one machine: the shape of the encoding record ENC and of the platform parameters (R4), and the
source of the free values. The VALUES of the encoding record stand in Sys2Proof/Decode.lean. -/

namespace Sys2Proof

/-- The record ENC of R4: every numeric encoding of 30_encoding.md and 10_state.md in one place (decisions D4, D8, D10).
PRESUMED by the spec itself from a resembling part; see log entry 11. -/
structure Enc where
  /-- Format CS, bits 7:5 (R61). -/
  opSelect : BitVec 3
  /-- Format CS, element codes E of the mode, load and hold registers (R61). -/
  elMode : BitVec 2
  elLoad : BitVec 2
  elHold : BitVec 2
  /-- Format CS, the group and element that name the master mode register (R61). -/
  groupMM : BitVec 3
  elMM : BitVec 2
  /-- Format CM, OP3 (R62). -/
  opArm : BitVec 3
  opLoad : BitVec 3
  opSave : BitVec 3
  opDisarm : BitVec 3
  /-- Format CN, OP5 (R63). -/
  opClearTc : BitVec 5
  opSetTc : BitVec 5
  /-- Format C0 (R64). -/
  byteReset : BitVec 8
  /-- Offsets of the data port and the command port from BASE (R4, R40). -/
  offData : Nat
  offCmd : Nat
  /-- Lowest bit of each field of the mode register (R14); GC has 3 bits, SRC 4, OC 3, the others 1. -/
  posGC : Nat
  posEdge : Nat
  posSrc : Nat
  posRep : Nat
  posDir : Nat
  posOC : Nat
  /-- RSV7, RSV6 and RSV4 as a mask (R18). -/
  rsvMask : BitVec 16
  /-- GC codes (R15). -/
  gcNone : BitVec 3
  gcHigh : BitVec 3
  gcLow : BitVec 3
  /-- SRC codes: the cascade, external line k = `srcLineBase + k`, tap F_k = `srcTapBase + k` (R17). -/
  srcCascade : BitVec 4
  srcLineBase : BitVec 4
  srcTapBase : BitVec 4
  /-- OC codes (R21). -/
  ocOff : BitVec 3
  ocPulse : BitVec 3
  ocToggle : BitVec 3
  /-- The bit of the status register that shows output line n (R24, decision D8). -/
  posStatus : PerChan Nat
deriving DecidableEq, Repr

/-- What drives a gate line (GATEWIRE[k] of R4, R32): an external pin, or the output line of a channel. -/
inductive GateWire where
  | ext
  | out (j : Chan)
deriving DecidableEq, Repr

/-- The open platform parameters the hardware reads (R4; decisions D2, D3, D18): constant over a run (R34).
They stand in State, so that every claim about all states is a claim about all platforms (log entry 7). -/
structure Platform where
  /-- BUS16: true = one 16-bit transfer, false = two 8-bit transfers. -/
  bus16 : Bool
  /-- BASE: the port number of the data port. -/
  base : Nat
  /-- GATEWIRE[k]. -/
  gateWire : PerChan GateWire
deriving DecidableEq, Repr

/-- FREE VALUES: the k-th value drawn (`unspecified` of R7: any value of its width, chosen anew at each use). No body: nothing
can prove what it is. Log entry 3. -/
opaque Config.freeWord : Nat → BitVec 16

end Sys2Proof
end

