-- ==== Sys2Proof/Machine/Channels.lean ====
section
/-! DEFINITION. Channel numbers and lists, reading and writing the entry of one channel, and the two halves of a 16-bit word. -/

namespace Sys2Proof

/-- The hardware number n in 1..5 (R5). -/
def Chan.num : Chan → Nat
  | .c1 => 1
  | .c2 => 2
  | .c3 => 3
  | .c4 => 4
  | .c5 => 5

/-- The source's counter index i = n - 1 (R5); also the mask bit that names the channel (R62, R66). -/
def Chan.idx : Chan → Nat
  | .c1 => 0
  | .c2 => 1
  | .c3 => 2
  | .c4 => 3
  | .c5 => 4

/-- The channel whose 3-bit code is `g`: 1 to 5, and no channel for 0, 6, 7 (R61, R63). -/
def Chan.ofCode (g : BitVec 3) : Option Chan :=
  if g = 1#3 then some .c1
  else if g = 2#3 then some .c2
  else if g = 3#3 then some .c3
  else if g = 4#3 then some .c4
  else if g = 5#3 then some .c5
  else none

/-- The 3-bit code of a channel: its number (R61, R63). -/
def Chan.code : Chan → BitVec 3
  | .c1 => 1#3
  | .c2 => 2#3
  | .c3 => 3#3
  | .c4 => 4#3
  | .c5 => 5#3

/-- All channels in the order 1, 2, 3, 4, 5 of R120's third phase. -/
def Chan.all : List Chan := [.c1, .c2, .c3, .c4, .c5]

/-- The channels n, n + 1, …, 5: a count that starts at n can reach these and no others by the cascade (R125). -/
def Chan.upFrom : Chan → List Chan
  | .c1 => [.c1, .c2, .c3, .c4, .c5]
  | .c2 => [.c2, .c3, .c4, .c5]
  | .c3 => [.c3, .c4, .c5]
  | .c4 => [.c4, .c5]
  | .c5 => [.c5]

/-- The channel "numerically immediately above", which the cascade of R125 feeds; channel 5 feeds nothing. -/
def Chan.next? : Chan → Option Chan
  | .c1 => some .c2
  | .c2 => some .c3
  | .c3 => some .c4
  | .c4 => some .c5
  | .c5 => none

/-- `f[n]`: the entry of channel n. -/
def PerChan.get {α : Type} (f : PerChan α) : Chan → α
  | .c1 => f.c1
  | .c2 => f.c2
  | .c3 => f.c3
  | .c4 => f.c4
  | .c5 => f.c5

/-- `f[n] <- v`: the file with the entry of channel n replaced. -/
def PerChan.set {α : Type} (f : PerChan α) (n : Chan) (v : α) : PerChan α :=
  match n with
  | .c1 => { f with c1 := v }
  | .c2 => { f with c2 := v }
  | .c3 => { f with c3 := v }
  | .c4 => { f with c4 := v }
  | .c5 => { f with c5 := v }

/-- The file whose entry for channel n is `g n`. -/
def PerChan.build {α : Type} (g : Chan → α) : PerChan α :=
  { c1 := g .c1, c2 := g .c2, c3 := g .c3, c4 := g .c4, c5 := g .c5 }

/-- `n ∈ Chans(S5)` of R107: mask bit n - 1 names channel n. -/
def Mask.names (m : Mask) (n : Chan) : Bool := m.getLsbD n.idx

/-- `Chans(S5)` of R107, lowest number first. -/
def Mask.chans (m : Mask) : List Chan := Chan.all.filter (Mask.names m)

/-- Bits 7:0 of a word: the byte the first 8-bit transfer carries (R42). -/
def Word.low (w : Word) : Byte := w.extractLsb' 0 8

/-- Bits 15:8 of a word: the byte the second 8-bit transfer carries (R42). -/
def Word.high (w : Word) : Byte := w.extractLsb' 8 8

/-- `hi ++ lo` (R66). -/
def Word.ofBytes (hi lo : Byte) : Word := hi ++ lo

end Sys2Proof
end

