-- ==== Sys2Proof/Syntax.lean ====
section
/-! DEFINITION. The operations of the block: the instruction set (one constructor for each row of spec/opcode_table.json), the
targets of SELECT, the port accesses that carry an operation, and the inputs a step can take. -/

namespace Sys2Proof

/-- A register behind the data pointer (R37 b, R80). -/
inductive Target where
  | mode (n : Chan)
  | load (n : Chan)
  | hold (n : Chan)
  | mm
deriving DecidableEq, Repr

/-- The operations of the opcode table, one constructor a row (R70, R41). -/
inductive Instr where
  | selectMode1 | selectMode2 | selectMode3 | selectMode4 | selectMode5
  | selectLoad1 | selectLoad2 | selectLoad3 | selectLoad4 | selectLoad5
  | selectHold1 | selectHold2 | selectHold3 | selectHold4 | selectHold5
  | selectMM
  | arm (m : Mask)
  | load (m : Mask)
  | save (m : Mask)
  | disarm (m : Mask)
  | clearTc1 | clearTc2 | clearTc3 | clearTc4 | clearTc5
  | setTc1 | setTc2 | setTc3 | setTc4 | setTc5
  | reset
  | dw16 (v : Word)
  | dr16
  | dw8 (b : Byte)
  | dr8
  | stat
deriving DecidableEq, Repr

/-- One access to a port of the host's port space: direction, width and port tell the operations apart (R41, R65). A read
carries no value; the value it returns is the machine's. -/
inductive Access where
  | write8 (port : Nat) (b : Byte)
  | write16 (port : Nat) (w : Word)
  | read8 (port : Nat)
  | read16 (port : Nat)
deriving DecidableEq, Repr

/-- Polarity of an edge on an external source line (R8 b): 0 rising, 1 falling. -/
inductive Pol where
  | rising
  | falling
deriving DecidableEq, Repr

/-- What can make the block take a step (R8): a port access of the host, or one of the three environment steps. -/
inductive Input where
  | host (a : Access)
  | clkTick
  | srcEdge (k : Chan) (pol : Pol)
  | gateSet (k : Chan) (v : Bool)
deriving DecidableEq, Repr

/-- Why a port access is no operation: its byte is a reserved command (R72), or its port, direction and width are no row of
R41 (R43). -/
inductive Reject where
  | reservedCommand
  | widthMismatch
deriving DecidableEq, Repr

/-- A decoded operation or the reason there is none. -/
inductive Decoded where
  | op (i : Instr)
  | reject (r : Reject)
deriving DecidableEq, Repr

end Sys2Proof
end

