-- ==== Sys2Proof/Decode.lean ====
section
/-! DEFINITION. The encodings (30_encoding.md): the values of the record ENC, the decoder of command bytes (R71) and of port
accesses (R41, R43), the encoder, and the reading of an opcode-table word. -/

namespace Sys2Proof

/-- The encoding table ENC of R4, with the values of 30_encoding.md R61 to R64 and 10_state.md R14 to R24. All of them are the
spec's decisions (D4, D8, D10), PRESUMED from a resembling part; log entry 11. -/
def enc : Enc where
  opSelect := 0b000#3
  elMode := 0b00#2
  elLoad := 0b01#2
  elHold := 0b10#2
  groupMM := 7#3
  elMM := 0b10#2
  opArm := 0b001#3
  opLoad := 0b010#3
  opSave := 0b101#3
  opDisarm := 0b110#3
  opClearTc := 0b11100#5
  opSetTc := 0b11101#5
  byteReset := 0xFF#8
  offData := 0
  offCmd := 1
  posGC := 13
  posEdge := 12
  posSrc := 8
  posRep := 5
  posDir := 3
  posOC := 0
  rsvMask := 0x00D0#16
  gcNone := 0b000#3
  gcHigh := 0b100#3
  gcLow := 0b101#3
  srcCascade := 0b0000#4
  srcLineBase := 0b0000#4
  srcTapBase := 0b1010#4
  ocOff := 0b000#3
  ocPulse := 0b001#3
  ocToggle := 0b010#3
  posStatus := { c1 := 1, c2 := 2, c3 := 3, c4 := 4, c5 := 5 }

/-- SELECT t as an instruction: the row of the opcode table whose target is t (R80). -/
def Instr.select : Target → Instr
  | .mode .c1 => .selectMode1
  | .mode .c2 => .selectMode2
  | .mode .c3 => .selectMode3
  | .mode .c4 => .selectMode4
  | .mode .c5 => .selectMode5
  | .load .c1 => .selectLoad1
  | .load .c2 => .selectLoad2
  | .load .c3 => .selectLoad3
  | .load .c4 => .selectLoad4
  | .load .c5 => .selectLoad5
  | .hold .c1 => .selectHold1
  | .hold .c2 => .selectHold2
  | .hold .c3 => .selectHold3
  | .hold .c4 => .selectHold4
  | .hold .c5 => .selectHold5
  | .mm => .selectMM

/-- CLEAR_TC n as an instruction (R105). -/
def Instr.clearTc : Chan → Instr
  | .c1 => .clearTc1
  | .c2 => .clearTc2
  | .c3 => .clearTc3
  | .c4 => .clearTc4
  | .c5 => .clearTc5

/-- SET_TC n as an instruction (R104). -/
def Instr.setTc : Chan → Instr
  | .c1 => .setTc1
  | .c2 => .setTc2
  | .c3 => .setTc3
  | .c4 => .setTc4
  | .c5 => .setTc5

/-- Bits 7:5: OP3 of format CM, and the zero of format CS (R61, R62). -/
def cmdOp3 (b : Byte) : BitVec 3 := b.extractLsb' 5 3

/-- Bits 4:3: E of format CS (R61). -/
def cmdE (b : Byte) : BitVec 2 := b.extractLsb' 3 2

/-- Bits 2:0: G of format CS, N of format CN (R61, R63). -/
def cmdG (b : Byte) : BitVec 3 := b.extractLsb' 0 3

/-- Bits 7:3: OP5 of format CN (R63). -/
def cmdOp5 (b : Byte) : BitVec 5 := b.extractLsb' 3 5

/-- Bits 4:0: the mask S of format CM (R62). -/
def cmdS (b : Byte) : Mask := b.extractLsb' 0 5

/-- The target element E and channel n name, if E is one of the three (R61). -/
def elementTarget (e : BitVec 2) (n : Chan) : Option Target :=
  if e = enc.elMode then some (.mode n)
  else if e = enc.elLoad then some (.load n)
  else if e = enc.elHold then some (.hold n)
  else none

/-- Format CS (R61): element E of group G, with the one code of the master mode register beside them. -/
def decodeSelect (b : Byte) : Option Instr :=
  match Chan.ofCode (cmdG b) with
  | some n => (elementTarget (cmdE b) n).map Instr.select
  | none => if cmdG b = enc.groupMM ∧ cmdE b = enc.elMM then some .selectMM else none

/-- The decoder of command bytes, in the order of R71; `none` is `reserved` (R72). Total: every byte has an answer. -/
def decodeCommand (b : Byte) : Option Instr :=
  if b = enc.byteReset then some .reset
  else if cmdOp3 b = enc.opSelect then decodeSelect b
  else if cmdOp3 b = enc.opArm then some (.arm (cmdS b))
  else if cmdOp3 b = enc.opLoad then some (.load (cmdS b))
  else if cmdOp3 b = enc.opSave then some (.save (cmdS b))
  else if cmdOp3 b = enc.opDisarm then some (.disarm (cmdS b))
  else if cmdOp5 b = enc.opClearTc then (Chan.ofCode (cmdG b)).map Instr.clearTc
  else if cmdOp5 b = enc.opSetTc then (Chan.ofCode (cmdG b)).map Instr.setTc
  else none

/-- A command byte written to the command port: an operation, or a byte refused as reserved (R72, R108). -/
def decodeCommandByte (b : Byte) : Decoded :=
  match decodeCommand b with
  | some i => .op i
  | none => .reject .reservedCommand

/-- The decoder: what an access to the host's port space means for a block at port `base` (R41). Total; any port, direction and
width that is no row of R41 is rejected (R43). Whether the data-port width fits BUS16 is checked where R82 checks it. -/
def decodeAccess (base : Nat) (a : Access) : Decoded :=
  match a with
  | .write8 p b =>
    if p = base + enc.offCmd then decodeCommandByte b
    else if p = base + enc.offData then .op (.dw8 b)
    else .reject .widthMismatch
  | .write16 p w => if p = base + enc.offData then .op (.dw16 w) else .reject .widthMismatch
  | .read8 p =>
    if p = base + enc.offCmd then .op .stat
    else if p = base + enc.offData then .op .dr8
    else .reject .widthMismatch
  | .read16 p => if p = base + enc.offData then .op .dr16 else .reject .widthMismatch

/-! ### The encoder -/

/-- A byte of format CS (R61). -/
def byteCS (e : BitVec 2) (g : BitVec 3) : Byte := enc.opSelect ++ e ++ g

/-- A byte of format CM (R62). -/
def byteCM (op3 : BitVec 3) (m : Mask) : Byte := op3 ++ m

/-- A byte of format CN (R63). -/
def byteCN (op5 : BitVec 5) (n : Chan) : Byte := op5 ++ n.code

/-- The command byte of SELECT t (R61). -/
def selectByte : Target → Byte
  | .mode n => byteCS enc.elMode n.code
  | .load n => byteCS enc.elLoad n.code
  | .hold n => byteCS enc.elHold n.code
  | .mm => byteCS enc.elMM enc.groupMM

/-- The access that carries an instruction to a block at port `base` (R41, R60 to R65): the encoder. -/
def encode (base : Nat) : Instr → Access
  | .selectMode1 => .write8 (base + enc.offCmd) (selectByte (.mode .c1))
  | .selectMode2 => .write8 (base + enc.offCmd) (selectByte (.mode .c2))
  | .selectMode3 => .write8 (base + enc.offCmd) (selectByte (.mode .c3))
  | .selectMode4 => .write8 (base + enc.offCmd) (selectByte (.mode .c4))
  | .selectMode5 => .write8 (base + enc.offCmd) (selectByte (.mode .c5))
  | .selectLoad1 => .write8 (base + enc.offCmd) (selectByte (.load .c1))
  | .selectLoad2 => .write8 (base + enc.offCmd) (selectByte (.load .c2))
  | .selectLoad3 => .write8 (base + enc.offCmd) (selectByte (.load .c3))
  | .selectLoad4 => .write8 (base + enc.offCmd) (selectByte (.load .c4))
  | .selectLoad5 => .write8 (base + enc.offCmd) (selectByte (.load .c5))
  | .selectHold1 => .write8 (base + enc.offCmd) (selectByte (.hold .c1))
  | .selectHold2 => .write8 (base + enc.offCmd) (selectByte (.hold .c2))
  | .selectHold3 => .write8 (base + enc.offCmd) (selectByte (.hold .c3))
  | .selectHold4 => .write8 (base + enc.offCmd) (selectByte (.hold .c4))
  | .selectHold5 => .write8 (base + enc.offCmd) (selectByte (.hold .c5))
  | .selectMM => .write8 (base + enc.offCmd) (selectByte .mm)
  | .arm m => .write8 (base + enc.offCmd) (byteCM enc.opArm m)
  | .load m => .write8 (base + enc.offCmd) (byteCM enc.opLoad m)
  | .save m => .write8 (base + enc.offCmd) (byteCM enc.opSave m)
  | .disarm m => .write8 (base + enc.offCmd) (byteCM enc.opDisarm m)
  | .clearTc1 => .write8 (base + enc.offCmd) (byteCN enc.opClearTc .c1)
  | .clearTc2 => .write8 (base + enc.offCmd) (byteCN enc.opClearTc .c2)
  | .clearTc3 => .write8 (base + enc.offCmd) (byteCN enc.opClearTc .c3)
  | .clearTc4 => .write8 (base + enc.offCmd) (byteCN enc.opClearTc .c4)
  | .clearTc5 => .write8 (base + enc.offCmd) (byteCN enc.opClearTc .c5)
  | .setTc1 => .write8 (base + enc.offCmd) (byteCN enc.opSetTc .c1)
  | .setTc2 => .write8 (base + enc.offCmd) (byteCN enc.opSetTc .c2)
  | .setTc3 => .write8 (base + enc.offCmd) (byteCN enc.opSetTc .c3)
  | .setTc4 => .write8 (base + enc.offCmd) (byteCN enc.opSetTc .c4)
  | .setTc5 => .write8 (base + enc.offCmd) (byteCN enc.opSetTc .c5)
  | .reset => .write8 (base + enc.offCmd) enc.byteReset
  | .dw16 v => .write16 (base + enc.offData) v
  | .dr16 => .read16 (base + enc.offData)
  | .dw8 b => .write8 (base + enc.offData) b
  | .dr8 => .read8 (base + enc.offData)
  | .stat => .read8 (base + enc.offCmd)

/-! ### Opcode-table words

The table gives bits to an operation, not a port. A word of 8 bits is a command byte; a word of 16 bits is the value of a 16-bit
data write. The five operations without opcode bits (R65) are told apart by port, direction and width, which no table word
holds; so that they too can be laid out as a number, a word of 24 bits is a whole access, its third byte naming the row of R41.
DESIGN CHOICE, log entry 10. -/

/-- The access a table word of `nbits` bits lays out for a block at port `base`. A length with no reading is an access that
R43 refuses. -/
def accessOfWord (base nbits w : Nat) : Access :=
  match nbits with
  | 8 => .write8 (base + enc.offCmd) (BitVec.ofNat 8 w)
  | 16 => .write16 (base + enc.offData) (BitVec.ofNat 16 w)
  | 24 =>
    match w / 65536 with
    | 0 => .write8 (base + enc.offCmd) (BitVec.ofNat 8 w)
    | 1 => .write16 (base + enc.offData) (BitVec.ofNat 16 w)
    | 2 => .read16 (base + enc.offData)
    | 3 => .write8 (base + enc.offData) (BitVec.ofNat 8 w)
    | 4 => .read8 (base + enc.offData)
    | 5 => .read8 (base + enc.offCmd)
    | _ => .read16 (base + enc.offCmd)
  | _ => .read16 (base + enc.offCmd)

/-- The instruction the decoder reads from an opcode-table word. -/
def decodeTableWord (nbits w : Nat) : Option Instr :=
  match decodeAccess 0 (accessOfWord 0 nbits w) with
  | .op i => some i
  | .reject _ => none

end Sys2Proof
end

