-- ==== Sys2Proof/Machine/State.lean ====
section
/-! DEFINITION. The state of one chip (10_state.md R10), the reasons a step can end without a next state (R171), and the state
right after reset (R35, R191). -/

namespace Sys2Proof.Machine

/-- A 16-bit register. `val` is what it holds; the marks say which of its bytes have a value the spec specifies (R35 and R88:
"if the old value was unspecified, the high byte is still unspecified"). What stands in `val` behind a false mark is never read
by a rule; a port read of it returns a free value (R89, log entries 2 and 6). -/
structure Reg16 where
  val : Word
  knownLow : Bool
  knownHigh : Bool
deriving DecidableEq, Repr

/-- A one-bit latch or line level with the same mark (R26, R32, R35). -/
structure Latch where
  level : Bool
  known : Bool
deriving DecidableEq, Repr

/-- The byte phase of an 8-bit transfer (R29). -/
inductive Phase where
  /-- `Idle`: the next 8-bit data access is the low byte. -/
  | idle
  /-- `WrHi`: a low byte has been written, the high byte must be written next. -/
  | wrHi
  /-- `RdHi`: a low byte has been read, the high byte must be read next. -/
  | rdHi
deriving DecidableEq, Repr

/-- What a port read returned to the host (R85, R87, R90). -/
inductive Returned where
  | data16 (v : Word)
  | data8 (b : Byte)
  | status (b : Byte)
deriving DecidableEq, Repr

/-- The state `S` of R10, then the model's own fields. Plain data. -/
structure State where
  /-- The open parameters of R4, constant over a run (R34). -/
  plat : Platform
  /-- `cnt[n]` (R11). -/
  cnt : PerChan Reg16
  /-- `load[n]` (R12). -/
  load : PerChan Reg16
  /-- `hold[n]` (R13). -/
  hold : PerChan Reg16
  /-- `mode[n]` (R14 to R22). -/
  mode : PerChan Reg16
  /-- `armed[n]` (R25). -/
  armed : PerChan Bool
  /-- `tgl[n]` (R26). -/
  tgl : PerChan Latch
  /-- `mm` (R23). -/
  mm : Reg16
  /-- `dp` (R28): none is the spec's own `None`. -/
  dp : Option Target
  /-- `xfer` (R29). -/
  xfer : Phase
  /-- `psc` (R31). -/
  psc : Word
  /-- `gate_in[k]` (R32). -/
  gateIn : PerChan Latch
  /-- `init_ld` (R33). -/
  initLd : Mask
  /-- `init_mm` (R33). -/
  initMm : Bool
  /-- The run's `Pulse(n)` events, oldest first (R34, R136). Read by no rule. Log entry 14. -/
  history : List Chan
  /-- The values port reads have returned, oldest first (R46). Read by no rule. Log entry 14. -/
  returned : List Returned
  /-- The inputs still to come, oldest first (R8). Log entry 8. -/
  schedule : List Input
  /-- How many free values have been drawn. Log entry 3. -/
  draws : Nat
deriving DecidableEq, Repr

/-- The block raises no exception: "The list of exception causes is empty" (R170). No step of the model ends in a fault. -/
inductive Fault where
deriving DecidableEq, Repr

/-- The reasons for a refusal (R171): the spec gives the operation no meaning in this state. Every one is SAFE: the model stops
where the chip would do something unknown. -/
inductive Refusal where
  /-- An instruction whose meaning is not written yet. None is left in this model. -/
  | notModelled (mnemonic : String)
  /-- `ReservedCommand`: a command byte that decodes as reserved (R72, R108). Raised by `step`. -/
  | reservedCommand
  /-- `MidTransfer`: a command other than RESET, or a status read, between the bytes of a transfer (R91, R107). -/
  | midTransfer
  /-- `MixedTransfer`: a data read follows a half write, or the reverse (R82). -/
  | mixedTransfer
  /-- `NotBooted`: an operation outside the boot sequence while `Ready(S)` fails (R193). -/
  | notBooted
  /-- `WidthMismatch`: an access whose port, direction or width is no row of R41 (R43, R82). Raised by `step` and by the data-port
  operations. -/
  | widthMismatch
  /-- `NoTarget`: a data-port access with `dp = None` (R82). -/
  | noTarget
  /-- `HoldWrite`: a data write with `dp = Hold(n)` (R82). -/
  | holdWrite
  /-- `BadMode`: a count event while an armed channel fails `ModeOK` (R120, R124). -/
  | badMode
  /-- `UnspecifiedCount`: a count delivered to a channel whose counter is unspecified (R124, R140). -/
  | unspecifiedCount
  /-- `UnspecifiedGate`: a gate needed whose line is unspecified (R129, R140). -/
  | unspecifiedGate
  /-- `UnspecifiedMode`: a transfer under an unspecified mode (R126). Raised by LOAD and at a terminal count. -/
  | unspecifiedMode
  /-- `UnspecifiedLoad`: a transfer from an unspecified load register (R126). Raised by LOAD and at a terminal count. -/
  | unspecifiedLoad
  /-- `SmallLoad`: a transfer of 1 or 2 into a tap-sourced down-counter (R126, R135). Raised by LOAD and at a terminal count. -/
  | smallLoad
  /-- The model's own: a scheduled `GateSet(k, v)` where gate line k is wired to an output; "the step does not exist" (R130).
  Raised by `step`. Log entry 12. -/
  | gateNotExternal
deriving DecidableEq, Repr

/-- A register whose value is specified. -/
def Reg16.known (w : Word) : Reg16 := { val := w, knownLow := true, knownHigh := true }

/-- A register whose value is unspecified; `w` is what it happens to hold. -/
def Reg16.unknown (w : Word) : Reg16 := { val := w, knownLow := false, knownHigh := false }

/-- A latch or line whose level is specified. -/
def Latch.is (v : Bool) : Latch := { level := v, known := true }

/-- A latch or line whose level is unspecified; `v` is what it happens to hold. -/
def Latch.unknown (v : Bool) : Latch := { level := v, known := false }

/-- The platform at `State.reset`: BUS16 true, BASE 0, every gate line external. DESIGN CHOICE, log entry 7: the spec leaves all
three open. -/
def resetPlatform : Platform :=
  { bus16 := true, base := 0, gateWire := { c1 := .ext, c2 := .ext, c3 := .ext, c4 := .ext, c5 := .ext } }

/-- The same register value for each channel. -/
def sameReg (r : Reg16) : PerChan Reg16 := { c1 := r, c2 := r, c3 := r, c4 := r, c5 := r }

/-- The same latch for each channel. -/
def sameLatch (l : Latch) : PerChan Latch := { c1 := l, c2 := l, c3 := l, c4 := l, c5 := l }

/-- Power-on (R191, R35): every channel disarmed, no register selected, byte phase idle, boot bookkeeping clear; every register,
latch and gate line unspecified, holding 0 behind its mark, and the prescaler at 0 (DESIGN CHOICE, log entries 1 and 5). -/
def State.reset : State where
  plat := resetPlatform
  cnt := sameReg (.unknown 0#16)
  load := sameReg (.unknown 0#16)
  hold := sameReg (.unknown 0#16)
  mode := sameReg (.unknown 0#16)
  armed := { c1 := false, c2 := false, c3 := false, c4 := false, c5 := false }
  tgl := sameLatch (.unknown false)
  mm := .unknown 0#16
  dp := none
  xfer := .idle
  psc := 0#16
  gateIn := sameLatch (.unknown false)
  initLd := 0#5
  initMm := false
  history := []
  returned := []
  schedule := []
  draws := 0

end Sys2Proof.Machine
end

