-- ==== Sys2Proof/Machine/Operands.lean ====
section
/-! DEFINITION. Reading operands: the fields of a mode register (R14 to R21), the validity predicates `ModeOK` and `OCOK` (R22), the
count sources and the divider taps (R17, R122, R150). -/

namespace Sys2Proof.Machine

/-- The register's whole value is specified. -/
def Reg16.specified (r : Reg16) : Bool := r.knownLow && r.knownHigh

/-- GC, gating control (R15). -/
def modeGC (m : Word) : BitVec 3 := m.extractLsb' enc.posGC 3

/-- EDGE, active edge of the count source (R16). -/
def modeEdge (m : Word) : Pol := if m.getLsbD enc.posEdge then .falling else .rising

/-- SRC, count source (R17). -/
def modeSrc (m : Word) : BitVec 4 := m.extractLsb' enc.posSrc 4

/-- REP: true = continuous, false = one-shot (R19). -/
def modeRep (m : Word) : Bool := m.getLsbD enc.posRep

/-- DIR: true = count up, false = count down (R20). -/
def modeUp (m : Word) : Bool := m.getLsbD enc.posDir

/-- OC, output control (R21). -/
def modeOC (m : Word) : BitVec 3 := m.extractLsb' enc.posOC 3

/-- A divider tap F1 to F5 (R122, R150). -/
inductive Tap where
  | f1 | f2 | f3 | f4 | f5
deriving DecidableEq, Repr

/-- The tap number k in 1..5 (R150). -/
def Tap.num : Tap → Nat
  | .f1 => 1
  | .f2 => 2
  | .f3 => 3
  | .f4 => 4
  | .f5 => 5

/-- DIV[k] = 16^(k-1) (R122, R150). -/
def Tap.ratio (k : Tap) : Nat := 16 ^ (k.num - 1)

/-- All taps, smallest ratio first. -/
def Tap.all : List Tap := [.f1, .f2, .f3, .f4, .f5]

/-- The SRC code of tap F_k: 0b1010 + k (R17, R150). -/
def Tap.code (k : Tap) : BitVec 4 := enc.srcTapBase + BitVec.ofNat 4 k.num

/-- The SRC code of external line k: the line number (R17). -/
def lineCode (k : Chan) : BitVec 4 := enc.srcLineBase + BitVec.ofNat 4 k.num

/-- The tap an SRC code names, if it names one (R17, R156). -/
def tapOfCode (c : BitVec 4) : Option Tap := Tap.all.find? fun k => decide (c = k.code)

/-- The external line an SRC code names, if it names one (R17). -/
def lineOfCode (c : BitVec 4) : Option Chan := Chan.all.find? fun k => decide (c = lineCode k)

/-- GC is one of its three codes (R22). -/
def gcLegal (g : BitVec 3) : Bool := decide (g = enc.gcNone) || decide (g = enc.gcHigh) || decide (g = enc.gcLow)

/-- SRC is a code channel n has: a line, a tap, or the cascade except on channel 1 (R17, R22). -/
def srcLegal (n : Chan) (c : BitVec 4) : Bool :=
  (decide (c = enc.srcCascade) && decide (n ≠ .c1)) || (lineOfCode c).isSome || (tapOfCode c).isSome

/-- OC is one of its three codes (R22). -/
def ocLegal (c : BitVec 3) : Bool := decide (c = enc.ocOff) || decide (c = enc.ocPulse) || decide (c = enc.ocToggle)

/-- The fields of a specified mode value are all legal on channel n (R22). -/
def modeLegal (n : Chan) (m : Word) : Bool :=
  gcLegal (modeGC m) && srcLegal n (modeSrc m) && decide (m &&& enc.rsvMask = 0#16) && ocLegal (modeOC m)

/-- `mode[n]` as a value. -/
def State.modeVal (s : State) (n : Chan) : Word := (s.mode.get n).val

/-- `ModeOK(n)` (R22). -/
def State.modeOK (s : State) (n : Chan) : Bool := (s.mode.get n).specified && modeLegal n (s.modeVal n)

/-- `OCOK` of a mode register (R22). One specified in half only counts as unspecified (log entry 2). -/
def ocOK (mode : Reg16) : Bool := mode.specified && ocLegal (modeOC mode.val)

/-- `OCOK(n)` (R22). -/
def State.ocOK (s : State) (n : Chan) : Bool := Machine.ocOK (s.mode.get n)

/-- The tap has an edge of this polarity when the prescaler has just become `psc` (R122). -/
def tapEdge (psc : Word) (k : Tap) (pol : Pol) : Bool :=
  match pol with
  | .rising => decide (psc.toNat % k.ratio = 0)
  | .falling => decide (k = .f1) || decide (psc.toNat % k.ratio = k.ratio / 2)

/-- A tick that leaves the prescaler at `s.psc` is an active edge of channel n's source: SRC(n) = 0b1010 + k and
`TapEdge(k, EDGE(n))` (R121). -/
def tickActive (s : State) (n : Chan) : Bool :=
  match tapOfCode (modeSrc (s.modeVal n)) with
  | some k => tapEdge s.psc k (modeEdge (s.modeVal n))
  | none => false

/-- An edge of polarity `pol` on line k is an active edge of channel n's source: SRC(n) = k and EDGE(n) = pol (R123). -/
def lineActive (k : Chan) (pol : Pol) (s : State) (n : Chan) : Bool :=
  decide (modeSrc (s.modeVal n) = lineCode k) && decide (modeEdge (s.modeVal n) = pol)

/-- SRC(n) is the cascade (R17, R125). -/
def State.cascaded (s : State) (n : Chan) : Bool := decide (modeSrc (s.modeVal n) = enc.srcCascade)

/-- SRC(n) >= 0b1011: the source is a divider tap (R126). -/
def State.tapped (s : State) (n : Chan) : Bool := decide (enc.srcTapBase < modeSrc (s.modeVal n))

end Sys2Proof.Machine
end

