-- ==== Sys2Proof/Machine/Flags.lean ====
section
/-! DEFINITION. The block's flags (R9): output lines (R27), the status byte (R24), gate lines and the gate snapshot (R32, R129). -/

namespace Sys2Proof.Machine

/-- The level of an output line, from the channel's mode register and its latch (R27); `none` is unspecified. -/
def outLevel (mode : Reg16) (latch : Latch) : Option Bool :=
  if ocOK mode = false then none
  else if modeOC mode.val = enc.ocToggle then (if latch.known then some latch.level else none)
  else some false

/-- `OutLine(n)` (R27). -/
def State.outLine (s : State) (n : Chan) : Option Bool := outLevel (s.mode.get n) (s.tgl.get n)

/-- The channel whose output line status bit i shows, if it shows one (R24; the positions are ENC's, decision D8). -/
def statusChan (i : Nat) : Option Chan := Chan.all.find? fun n => decide (enc.posStatus.get n = i)

/-- Status bit i: the output line it shows; the free value's bit i where that line is unspecified or the bit shows none (R24). -/
def State.statusBit (s : State) (free : Word) (i : Nat) : Bool :=
  ((statusChan i).bind s.outLine).getD (free.getLsbD i)

/-- The status byte (R24, R90): bits 1 to 5 show the output lines, bits 0, 6 and 7 are free (log entry 3). -/
def State.statusByte (s : State) (free : Word) : Byte :=
  BitVec.ofBoolListLE
    [s.statusBit free 0, s.statusBit free 1, s.statusBit free 2, s.statusBit free 3, s.statusBit free 4,
      s.statusBit free 5, s.statusBit free 6, s.statusBit free 7]

/-- `GateLine(n)` (R32, R129); `none` is unspecified. -/
def State.gateLine (s : State) (n : Chan) : Option Bool :=
  match s.plat.gateWire.get n with
  | .out j => s.outLine j
  | .ext => if (s.gateIn.get n).known then some (s.gateIn.get n).level else none

/-- Whether a gating code lets a count pass at a level of its gate line (R129); `none` where the gate is needed and the line is
unspecified. -/
def gatePass (gc : BitVec 3) (line : Option Bool) : Option Bool :=
  if gc = enc.gcNone then some true
  else line.map fun v => if gc = enc.gcHigh then v else !v

/-- `GateOK(n)` of R129. -/
def State.gateOK (s : State) (n : Chan) : Option Bool := gatePass (modeGC (s.modeVal n)) (s.gateLine n)

/-- Some armed channel needs a gate whose line is unspecified: R129's `refuse(UnspecifiedGate)`. -/
def State.gateUnspecified (s : State) (n : Chan) : Bool := s.armed.get n && (s.gateOK n).isNone

/-- The snapshot G of R120, phase 2. The entry of a disarmed channel is never read. -/
def State.gates (s : State) : PerChan Bool := PerChan.build fun n => (s.gateOK n).getD false

/-- Phase 1 of R120: no armed channel fails `ModeOK`. -/
def State.modesOK (s : State) : Bool := Chan.all.all fun n => !s.armed.get n || s.modeOK n

/-- Phase 2 of R120: no armed channel needs an unspecified gate. -/
def State.gatesOK (s : State) : Bool := Chan.all.all fun n => !s.gateUnspecified n

end Sys2Proof.Machine
end

