-- ==== Sys2Proof/Machine/Ops.lean ====
section
/-! DEFINITION. The named operations every meaning is written over: results and refusals, register reads and writes, the data-port
preconditions and completion (R82, R83), the common part of the commands (R107), and reset (R35).

The block takes no exception and returns from none (R170, R175, R176), so there is no such operation here; a rule that ends in
`refuse(reason)` (R7, R171) ends in `.error reason`. -/

namespace Sys2Proof.Machine

/-- What an internal operation answers: the state it leaves, or the reason it is refused. -/
abbrev Result := Except Refusal State

/-- A result as the outcome of a step. -/
def outcome : Result → Host.Outcome State Fault Refusal
  | .ok s => .next s
  | .error r => .refused r

/-! ### Registers -/

/-- `cnt[n] <- r`. -/
def State.setCnt (s : State) (n : Chan) (r : Reg16) : State := { s with cnt := s.cnt.set n r }

/-- `load[n] <- r`. -/
def State.setLoad (s : State) (n : Chan) (r : Reg16) : State := { s with load := s.load.set n r }

/-- `hold[n] <- r`. -/
def State.setHold (s : State) (n : Chan) (r : Reg16) : State := { s with hold := s.hold.set n r }

/-- `mode[n] <- r`. -/
def State.setMode (s : State) (n : Chan) (r : Reg16) : State := { s with mode := s.mode.set n r }

/-- `mm <- r`. -/
def State.setMm (s : State) (r : Reg16) : State := { s with mm := r }

/-- `armed[n] <- v`. -/
def State.setArmed (s : State) (n : Chan) (v : Bool) : State := { s with armed := s.armed.set n v }

/-- `tgl[n] <- l`. -/
def State.setTgl (s : State) (n : Chan) (l : Latch) : State := { s with tgl := s.tgl.set n l }

/-- `gate_in[k] <- l`. -/
def State.setGateIn (s : State) (k : Chan) (l : Latch) : State := { s with gateIn := s.gateIn.set k l }

/-- `xfer <- p`. -/
def State.setXfer (s : State) (p : Phase) : State := { s with xfer := p }

/-- `emit Pulse(n)` (R136): the event joins the run's history. -/
def State.emitPulse (s : State) (n : Chan) : State := { s with history := s.history ++ [n] }

/-- A port read returns `v` to the host and one free value has been drawn for it, used or not (log entry 3). -/
def State.giveBack (s : State) (v : Returned) : State :=
  { s with returned := s.returned ++ [v], draws := s.draws + 1 }

/-- `Reg(t)` read (R82). -/
def State.reg (s : State) : Target → Reg16
  | .mode n => s.mode.get n
  | .load n => s.load.get n
  | .hold n => s.hold.get n
  | .mm => s.mm

/-- `Reg(t) <- r` (R82). -/
def State.setReg (s : State) (t : Target) (r : Reg16) : State :=
  match t with
  | .mode n => s.setMode n r
  | .load n => s.setLoad n r
  | .hold n => s.setHold n r
  | .mm => s.setMm r

/-- Bits 7:0 of a register as a read sees them: its own where specified, the free value's where not (R89). -/
def Reg16.readLow (r : Reg16) (free : Word) : Byte := if r.knownLow then r.val.low else free.low

/-- Bits 15:8 of a register as a read sees them (R89). -/
def Reg16.readHigh (r : Reg16) (free : Word) : Byte := if r.knownHigh then r.val.high else free.high

/-- All 16 bits of a register as a read sees them (R85, R89). -/
def Reg16.read (r : Reg16) (free : Word) : Word := Word.ofBytes (r.readHigh free) (r.readLow free)

/-- The register after its low byte is written: the old high byte stays, with its mark (R86, R88). -/
def Reg16.writeLow (r : Reg16) (b : Byte) : Reg16 :=
  { val := Word.ofBytes r.val.high b, knownLow := true, knownHigh := r.knownHigh }

/-- The register after its high byte is written (R86, R88). -/
def Reg16.writeHigh (r : Reg16) (b : Byte) : Reg16 :=
  { val := Word.ofBytes b r.val.low, knownLow := r.knownLow, knownHigh := true }

/-! ### Boot -/

/-- 0b11111: all five channels (R33). -/
def allChannels : Mask := 0x1F#5

/-- `Ready(S)` (R33). -/
def State.ready (s : State) : Bool := decide (s.initLd = allChannels) && s.initMm

/-! ### Data port -/

/-- The target is a hold register. -/
def Target.isHold : Target → Bool
  | .hold _ => true
  | .mode _ | .load _ | .mm => false

/-- `DataPre(op)` (R82): the checks common to the four data-port operations, in the rule's order; then the operation itself on the
target. `wide` says the access is 16 bits, `write` that it writes. -/
def dataPre (wide write : Bool) (s : State) (op : Target → Result) : Result :=
  if wide ≠ s.plat.bus16 then .error .widthMismatch
  else match s.dp with
    | none => .error .noTarget
    | some t =>
      if s.ready = false ∧ ¬(t = .mm ∧ write = true) then .error .notBooted
      else if s.xfer = .wrHi ∧ write = false then .error .mixedTransfer
      else if s.xfer = .rdHi ∧ write = true then .error .mixedTransfer
      else if write = true ∧ Target.isHold t = true then .error .holdWrite
      else op t

/-- Completion of a 16-bit transfer (R83). -/
def complete (write : Bool) (t : Target) (s : State) : State :=
  { s with dp := none, xfer := .idle, initMm := s.initMm || (write && decide (t = .mm)) }

/-! ### Commands -/

/-- `CmdPre(b)` (R107) of a command other than LOAD. -/
def cmdPre (s : State) (op : Result) : Result :=
  if s.xfer ≠ .idle then .error .midTransfer
  else if s.ready = false then .error .notBooted
  else op

/-- `CmdPre(b)` (R107) of a LOAD: it is part of the boot sequence, so it needs no `Ready(S)`. -/
def loadPre (s : State) (op : Result) : Result :=
  if s.xfer ≠ .idle then .error .midTransfer else op

/-- `f[n] <- v` for every channel the mask names, in one step (R107). -/
def setNamed {α : Type} (f : PerChan α) (m : Mask) (v : Chan → α) : PerChan α :=
  PerChan.build fun n => if m.names n then v n else f.get n

/-! ### Reset -/

/-- A 16-bit register whose value is unspecified: it holds the k-th free value. -/
def freeReg (k : Nat) : Reg16 := .unknown (Config.freeWord k)

/-- A latch whose level is unspecified: a bit of the k-th free value. -/
def freeLatch (k : Nat) : Latch := .unknown ((Config.freeWord k).getLsbD 0)

/-- The state after RESET (R35, R106): what R35 gives a value has it, and every other register, latch and the prescaler takes a
free value; the external gate levels, the platform and the model's own records stay. Log entry 4. -/
def resetState (s : State) : State :=
  { s with
    cnt := PerChan.build fun n => freeReg (s.draws + n.idx)
    load := PerChan.build fun n => freeReg (s.draws + 5 + n.idx)
    hold := PerChan.build fun n => freeReg (s.draws + 10 + n.idx)
    mode := PerChan.build fun n => freeReg (s.draws + 15 + n.idx)
    tgl := PerChan.build fun n => freeLatch (s.draws + 20 + n.idx)
    armed := PerChan.build fun _ => false
    mm := freeReg (s.draws + 25)
    dp := none
    xfer := .idle
    psc := Config.freeWord (s.draws + 26)
    initLd := 0#5
    initMm := false
    draws := s.draws + 27 }

end Sys2Proof.Machine
end

