-- ==== Sys2Proof/Machine/Counting.lean ====
section
/-! DEFINITION. What the channels do when the environment steps (42_counting.md): transfer, terminal count, count, cascade, and the
three environment steps. -/

namespace Sys2Proof.Machine

/-! ### Transfer -/

/-- What a transfer of `v` leaves in the counter: 0x0000 into a down-counter leaves 0xFFFF (R126, R131). -/
def transferValue (up : Bool) (v : Word) : Word := if up = false ∧ v = 0#16 then 0xFFFF#16 else v

/-- A transfer of 1 or 2 into a tap-sourced down-counter, which R135 gives no meaning. -/
def smallLoad (up tapped : Bool) (v : Word) : Bool := !up && tapped && (decide (v = 1#16) || decide (v = 2#16))

/-- `Transfer(n)` (R126): the load register goes into the counter. -/
def transfer (n : Chan) (s : State) : Result :=
  if (s.mode.get n).specified = false then .error .unspecifiedMode
  else if (s.load.get n).specified = false then .error .unspecifiedLoad
  else if smallLoad (modeUp (s.modeVal n)) (s.tapped n) (s.load.get n).val then .error .smallLoad
  else .ok (s.setCnt n (.known (transferValue (modeUp (s.modeVal n)) (s.load.get n).val)))

/-- `Transfer` for a list of channels, first to last; the first refusal stands. -/
def transferAll : List Chan → State → Result
  | [], s => .ok s
  | n :: rest, s =>
    match transfer n s with
    | .error r => .error r
    | .ok s' => transferAll rest s'

/-! ### Terminal count and count -/

/-- The output action of a terminal count (R128): OC = toggle inverts the latch ("unspecified stays unspecified"), OC = pulse
emits `Pulse(n)`, OC = inactive shows nothing. -/
def tcOutput (n : Chan) (s : State) : State :=
  if modeOC (s.modeVal n) = enc.ocToggle then
    s.setTgl n { level := !(s.tgl.get n).level, known := (s.tgl.get n).known }
  else if modeOC (s.modeVal n) = enc.ocPulse then s.emitPulse n
  else s

/-- A one-shot channel disarms itself at its terminal count (R128). -/
def tcDisarm (n : Chan) (s : State) : State := if modeRep (s.modeVal n) then s else s.setArmed n false

/-- `TC(n, G)` up to its cascade (R128): reload, output, disarm, in that order (R138). -/
def terminalCount (n : Chan) (s : State) : Result :=
  match transfer n s with
  | .error r => .error r
  | .ok s' => .ok (tcDisarm n (tcOutput n s'))

/-- The count that is a terminal count: a down-counter at zero, an up-counter at 0xFFFF (R127). -/
def atTerminal (up : Bool) (v : Word) : Bool := if up then decide (v = 0xFFFF#16) else decide (v = 0#16)

/-- The counter after a count that is no terminal count (R127). -/
def stepValue (up : Bool) (v : Word) : Word := if up then v + 1#16 else v - 1#16

/-- `Count(n, G)` (R124), `step(n, G)` (R127) and the cascade of R125 and R128. The list holds n and the channels above it: a
terminal count of n delivers one `Count` to the next of them if that is armed and has the cascade source. -/
def count : List Chan → PerChan Bool → State → Result
  | [], _, s => .ok s
  | n :: above, g, s =>
    if s.armed.get n = false then .ok s
    else if s.modeOK n = false then .error .badMode
    else if g.get n = false then .ok s
    else if (s.cnt.get n).specified = false then .error .unspecifiedCount
    else if atTerminal (modeUp (s.modeVal n)) (s.cnt.get n).val then
      match terminalCount n s with
      | .error r => .error r
      | .ok s' =>
        match above with
        | [] => .ok s'
        | n' :: above' => if s'.armed.get n' ∧ s'.cascaded n' then count (n' :: above') g s' else .ok s'
    else .ok (s.setCnt n (.known (stepValue (modeUp (s.modeVal n)) (s.cnt.get n).val)))

/-! ### Count events -/

/-- Phase 3 of R120: every armed channel for whose source the event is an active edge is counted, in the order of the list;
`armed[n]` is read when channel n is reached. -/
def deliver (active : State → Chan → Bool) (g : PerChan Bool) : List Chan → State → Result
  | [], s => .ok s
  | n :: rest, s =>
    if s.armed.get n ∧ active s n then
      match count n.upFrom g s with
      | .error r => .error r
      | .ok s' => deliver active g rest s'
    else deliver active g rest s

/-- The three phases of a count event (R120). -/
def countEvent (active : State → Chan → Bool) (s : State) : Result :=
  if s.modesOK = false then .error .badMode
  else if s.gatesOK = false then .error .unspecifiedGate
  else deliver active s.gates Chan.all s

/-- `ClkTick` (R121). -/
def clkTick (s : State) : Result := countEvent tickActive { s with psc := s.psc + 1#16 }

/-- `SrcEdge(k, pol)` (R123). -/
def srcEdge (k : Chan) (pol : Pol) (s : State) : Result := countEvent (lineActive k pol) s

/-- `GateSet(k, v)` (R130); the step does not exist where gate line k is wired to an output (log entry 12). -/
def gateSet (k : Chan) (v : Bool) (s : State) : Result :=
  match s.plat.gateWire.get k with
  | .ext => .ok (s.setGateIn k (.is v))
  | .out _ => .error .gateNotExternal

end Sys2Proof.Machine
end

