-- ==== Sys2Proof/Machine/Control.lean ====
section
/-! DEFINITION. The counter control family (41_counter_control.md): ARM, DISARM, LOAD, SAVE, SET_TC, CLEAR_TC, RESET. -/

namespace Sys2Proof.Machine

/-- ARM S5 (R100). -/
def execArm (m : Mask) (s : State) : Host.Outcome State Fault Refusal :=
  outcome <| cmdPre s (.ok { s with armed := setNamed s.armed m fun _ => true })

/-- DISARM S5 (R101). -/
def execDisarm (m : Mask) (s : State) : Host.Outcome State Fault Refusal :=
  outcome <| cmdPre s (.ok { s with armed := setNamed s.armed m fun _ => false })

/-- The boot sequence's dummy load (R102, R193): the named counters take unspecified values and the channels are noted as loaded.
A mask that names no channel draws no free value, so it changes nothing (R107). -/
def dummyLoad (m : Mask) (s : State) : State :=
  { s with
    cnt := setNamed s.cnt m fun n => freeReg (s.draws + n.idx)
    initLd := s.initLd ||| m
    draws := if m = 0#5 then s.draws else s.draws + 5 }

/-- LOAD S5 (R102). -/
def execLoad (m : Mask) (s : State) : Host.Outcome State Fault Refusal :=
  outcome <| loadPre s <| if s.ready = false then .ok (dummyLoad m s) else transferAll m.chans s

/-- SAVE S5 (R103): an unspecified counter leaves the hold register unspecified. -/
def execSave (m : Mask) (s : State) : Host.Outcome State Fault Refusal :=
  outcome <| cmdPre s (.ok { s with hold := setNamed s.hold m fun n => s.cnt.get n })

/-- SET_TC n and CLEAR_TC n (R104, R105): the latch and nothing else. -/
def forceOutput (n : Chan) (v : Bool) (s : State) : Host.Outcome State Fault Refusal :=
  outcome <| cmdPre s (.ok (s.setTgl n (.is v)))

/-- CLEAR_TC 1 (R105). -/
def execClearTc1 (s : State) : Host.Outcome State Fault Refusal := forceOutput .c1 false s

/-- CLEAR_TC 2 (R105). -/
def execClearTc2 (s : State) : Host.Outcome State Fault Refusal := forceOutput .c2 false s

/-- CLEAR_TC 3 (R105). -/
def execClearTc3 (s : State) : Host.Outcome State Fault Refusal := forceOutput .c3 false s

/-- CLEAR_TC 4 (R105). -/
def execClearTc4 (s : State) : Host.Outcome State Fault Refusal := forceOutput .c4 false s

/-- CLEAR_TC 5 (R105). -/
def execClearTc5 (s : State) : Host.Outcome State Fault Refusal := forceOutput .c5 false s

/-- SET_TC 1 (R104). -/
def execSetTc1 (s : State) : Host.Outcome State Fault Refusal := forceOutput .c1 true s

/-- SET_TC 2 (R104). -/
def execSetTc2 (s : State) : Host.Outcome State Fault Refusal := forceOutput .c2 true s

/-- SET_TC 3 (R104). -/
def execSetTc3 (s : State) : Host.Outcome State Fault Refusal := forceOutput .c3 true s

/-- SET_TC 4 (R104). -/
def execSetTc4 (s : State) : Host.Outcome State Fault Refusal := forceOutput .c4 true s

/-- SET_TC 5 (R104). -/
def execSetTc5 (s : State) : Host.Outcome State Fault Refusal := forceOutput .c5 true s

/-- RESET (R106): accepted in every state. -/
def execReset (s : State) : Host.Outcome State Fault Refusal := outcome (.ok (resetState s))

end Sys2Proof.Machine
end

