-- ==== Sys2Proof/Machine/DataPort.lean ====
section
/-! DEFINITION. The data port and the status port: DataWrite16 (R84), DataRead16 (R85), DataWrite8 (R86), DataRead8 (R87) and
StatusRead (R90). -/

namespace Sys2Proof.Machine

/-- `DataWrite16(w)` (R84). -/
def execDw16 (v : Word) (s : State) : Host.Outcome State Fault Refusal :=
  outcome <| dataPre true true s fun t => .ok (complete true t (s.setReg t (.known v)))

/-- `DataRead16()` (R85): an unspecified register reads as a free value (R89). -/
def execDr16 (s : State) : Host.Outcome State Fault Refusal :=
  outcome <| dataPre true false s fun t =>
    .ok (complete false t (s.giveBack (.data16 ((s.reg t).read (Config.freeWord s.draws)))))

/-- `DataWrite8(b)` (R86): the low byte first, each byte reaching its half at once (R88). -/
def execDw8 (b : Byte) (s : State) : Host.Outcome State Fault Refusal :=
  outcome <| dataPre false true s fun t =>
    if s.xfer = .idle then .ok ((s.setReg t ((s.reg t).writeLow b)).setXfer .wrHi)
    else .ok (complete true t (s.setReg t ((s.reg t).writeHigh b)))

/-- `DataRead8()` (R87): the low byte first. -/
def execDr8 (s : State) : Host.Outcome State Fault Refusal :=
  outcome <| dataPre false false s fun t =>
    if s.xfer = .idle then .ok ((s.giveBack (.data8 ((s.reg t).readLow (Config.freeWord s.draws)))).setXfer .rdHi)
    else .ok (complete false t (s.giveBack (.data8 ((s.reg t).readHigh (Config.freeWord s.draws)))))

/-- `StatusRead()` (R90): it changes no register, latch or flag. -/
def execStat (s : State) : Host.Outcome State Fault Refusal :=
  outcome <|
    if s.xfer ≠ .idle then .error .midTransfer
    else if s.ready = false then .error .notBooted
    else .ok (s.giveBack (.status (s.statusByte (Config.freeWord s.draws))))

end Sys2Proof.Machine
end

