-- ==== Sys2Proof/Machine/Select.lean ====
section
/-! DEFINITION. SELECT (R80), one definition for each row of the opcode table. -/

namespace Sys2Proof.Machine

/-- SELECT t (R80): not between the bytes of a transfer (R91); before `Ready(S)` only MM, and only after the dummy load of all
five channels (R193). -/
def select (t : Target) (s : State) : Host.Outcome State Fault Refusal :=
  outcome <|
    if s.xfer ≠ .idle then .error .midTransfer
    else if s.ready = false ∧ ¬(t = .mm ∧ s.initLd = allChannels) then .error .notBooted
    else .ok { s with dp := some t, xfer := .idle }

/-- SELECT Mode(1) (R80). -/
def execSelectMode1 (s : State) : Host.Outcome State Fault Refusal := select (.mode .c1) s

/-- SELECT Mode(2) (R80). -/
def execSelectMode2 (s : State) : Host.Outcome State Fault Refusal := select (.mode .c2) s

/-- SELECT Mode(3) (R80). -/
def execSelectMode3 (s : State) : Host.Outcome State Fault Refusal := select (.mode .c3) s

/-- SELECT Mode(4) (R80). -/
def execSelectMode4 (s : State) : Host.Outcome State Fault Refusal := select (.mode .c4) s

/-- SELECT Mode(5) (R80). -/
def execSelectMode5 (s : State) : Host.Outcome State Fault Refusal := select (.mode .c5) s

/-- SELECT Load(1) (R80). -/
def execSelectLoad1 (s : State) : Host.Outcome State Fault Refusal := select (.load .c1) s

/-- SELECT Load(2) (R80). -/
def execSelectLoad2 (s : State) : Host.Outcome State Fault Refusal := select (.load .c2) s

/-- SELECT Load(3) (R80). -/
def execSelectLoad3 (s : State) : Host.Outcome State Fault Refusal := select (.load .c3) s

/-- SELECT Load(4) (R80). -/
def execSelectLoad4 (s : State) : Host.Outcome State Fault Refusal := select (.load .c4) s

/-- SELECT Load(5) (R80). -/
def execSelectLoad5 (s : State) : Host.Outcome State Fault Refusal := select (.load .c5) s

/-- SELECT Hold(1) (R80). -/
def execSelectHold1 (s : State) : Host.Outcome State Fault Refusal := select (.hold .c1) s

/-- SELECT Hold(2) (R80). -/
def execSelectHold2 (s : State) : Host.Outcome State Fault Refusal := select (.hold .c2) s

/-- SELECT Hold(3) (R80). -/
def execSelectHold3 (s : State) : Host.Outcome State Fault Refusal := select (.hold .c3) s

/-- SELECT Hold(4) (R80). -/
def execSelectHold4 (s : State) : Host.Outcome State Fault Refusal := select (.hold .c4) s

/-- SELECT Hold(5) (R80). -/
def execSelectHold5 (s : State) : Host.Outcome State Fault Refusal := select (.hold .c5) s

/-- SELECT MM (R80). -/
def execSelectMM (s : State) : Host.Outcome State Fault Refusal := select .mm s

end Sys2Proof.Machine
end

