-- ==== Sys2Proof/Machine/Dispatch.lean ====
section
/-! DEFINITION. The meaning of every instruction: one arm for each constructor of Instr. -/

namespace Sys2Proof.Machine

def exec (i : Instr) (s : State) : Host.Outcome State Fault Refusal :=
  match i with
  | .selectMode1 => Sys2Proof.Machine.execSelectMode1 s
  | .selectMode2 => Sys2Proof.Machine.execSelectMode2 s
  | .selectMode3 => Sys2Proof.Machine.execSelectMode3 s
  | .selectMode4 => Sys2Proof.Machine.execSelectMode4 s
  | .selectMode5 => Sys2Proof.Machine.execSelectMode5 s
  | .selectLoad1 => Sys2Proof.Machine.execSelectLoad1 s
  | .selectLoad2 => Sys2Proof.Machine.execSelectLoad2 s
  | .selectLoad3 => Sys2Proof.Machine.execSelectLoad3 s
  | .selectLoad4 => Sys2Proof.Machine.execSelectLoad4 s
  | .selectLoad5 => Sys2Proof.Machine.execSelectLoad5 s
  | .selectHold1 => Sys2Proof.Machine.execSelectHold1 s
  | .selectHold2 => Sys2Proof.Machine.execSelectHold2 s
  | .selectHold3 => Sys2Proof.Machine.execSelectHold3 s
  | .selectHold4 => Sys2Proof.Machine.execSelectHold4 s
  | .selectHold5 => Sys2Proof.Machine.execSelectHold5 s
  | .selectMM => Sys2Proof.Machine.execSelectMM s
  | .arm m => Sys2Proof.Machine.execArm m s
  | .load m => Sys2Proof.Machine.execLoad m s
  | .save m => Sys2Proof.Machine.execSave m s
  | .disarm m => Sys2Proof.Machine.execDisarm m s
  | .clearTc1 => Sys2Proof.Machine.execClearTc1 s
  | .clearTc2 => Sys2Proof.Machine.execClearTc2 s
  | .clearTc3 => Sys2Proof.Machine.execClearTc3 s
  | .clearTc4 => Sys2Proof.Machine.execClearTc4 s
  | .clearTc5 => Sys2Proof.Machine.execClearTc5 s
  | .setTc1 => Sys2Proof.Machine.execSetTc1 s
  | .setTc2 => Sys2Proof.Machine.execSetTc2 s
  | .setTc3 => Sys2Proof.Machine.execSetTc3 s
  | .setTc4 => Sys2Proof.Machine.execSetTc4 s
  | .setTc5 => Sys2Proof.Machine.execSetTc5 s
  | .reset => Sys2Proof.Machine.execReset s
  | .dw16 v => Sys2Proof.Machine.execDw16 v s
  | .dr16 => Sys2Proof.Machine.execDr16 s
  | .dw8 b => Sys2Proof.Machine.execDw8 b s
  | .dr8 => Sys2Proof.Machine.execDr8 s
  | .stat => Sys2Proof.Machine.execStat s

end Sys2Proof.Machine
end

