-- ==== Sys2Proof/Machine/Environment.lean ====
section
/-! DEFINITION. What a step does with an input that is no instruction: the environment steps of R8 b, and an access that decodes to
no instruction. -/

namespace Sys2Proof.Machine

/-- The environment step `ClkTick` (R121). -/
def stepClkTick (s : State) : Host.Outcome State Fault Refusal := outcome (clkTick s)

/-- The environment step `SrcEdge(k, pol)` (R123). -/
def stepSrcEdge (k : Chan) (pol : Pol) (s : State) : Host.Outcome State Fault Refusal := outcome (srcEdge k pol s)

/-- The environment step `GateSet(k, v)` (R130). -/
def stepGateSet (k : Chan) (v : Bool) (s : State) : Host.Outcome State Fault Refusal := outcome (gateSet k v s)

/-- An access that is no operation is refused, in every state (R43, R72, R108). -/
def refuseAccess : Reject → Host.Outcome State Fault Refusal
  | .reservedCommand => .refused .reservedCommand
  | .widthMismatch => .refused .widthMismatch

end Sys2Proof.Machine
end

