-- ==== Sys2Proof/WellFormed.lean ====
section
/-! DEFINITION. The checks on an operation that its type does not make: the data-port width must be the platform's bus width
(R41, R43, R74), and a gate step needs an external gate line (R130). -/

namespace Sys2Proof

/-- The instruction is one this bus width has: 16-bit transfers when BUS16 is true, 8-bit transfers when it is false; every
command and the status read on both (R41, R74). -/
def Instr.wellFormed (bus16 : Bool) : Instr → Bool
  | .dw16 _ => bus16
  | .dr16 => bus16
  | .dw8 _ => !bus16
  | .dr8 => !bus16
  | .selectMode1 | .selectMode2 | .selectMode3 | .selectMode4 | .selectMode5 => true
  | .selectLoad1 | .selectLoad2 | .selectLoad3 | .selectLoad4 | .selectLoad5 => true
  | .selectHold1 | .selectHold2 | .selectHold3 | .selectHold4 | .selectHold5 => true
  | .selectMM => true
  | .arm _ | .load _ | .save _ | .disarm _ => true
  | .clearTc1 | .clearTc2 | .clearTc3 | .clearTc4 | .clearTc5 => true
  | .setTc1 | .setTc2 | .setTc3 | .setTc4 | .setTc5 => true
  | .reset => true
  | .stat => true

/-- The input is one this platform has: `GateSet(k, v)` exists only for an external gate line (R130). -/
def Input.wellFormed (p : Platform) : Input → Bool
  | .gateSet k _ => decide (p.gateWire.get k = .ext)
  | .host _ => true
  | .clkTick => true
  | .srcEdge _ _ => true

end Sys2Proof
end

