-- ==== Sys2Proof/Machine/Step.lean ====
section
/-! DEFINITION. One step of the block: the next input of the schedule is taken, a host access is decoded and its instruction run, an
environment step is made. -/

namespace Sys2Proof.Machine

/-- One step (R8). Each input is one atomic step, and the schedule fixes their interleaving (R45, R50). With nothing scheduled
the clock goes on ticking (R50 d). Log entry 8. -/
def step (s : State) : Host.Outcome State Fault Refusal :=
  match s.schedule with
  | [] => stepClkTick s
  | .host a :: rest =>
    match decodeAccess s.plat.base a with
    | .op i => exec i { s with schedule := rest }
    | .reject r => refuseAccess r
  | .clkTick :: rest => stepClkTick { s with schedule := rest }
  | .srcEdge k pol :: rest => stepSrcEdge k pol { s with schedule := rest }
  | .gateSet k v :: rest => stepGateSet k v { s with schedule := rest }

/-- `s` with the access of an opcode-table word as its next input: the very next step runs that instruction. Log entries 9
and 10. -/
def State.withFetchWord (s : State) (nbits w : Nat) : State :=
  { s with schedule := .host (accessOfWord s.plat.base nbits w) :: s.schedule }

end Sys2Proof.Machine
end

