-- ==== Sys2Proof/Machine/Divider.lean ====
section
/-! DEFINITION. The frequency-divider mode selector (43_divider_selection.md): pure functions, which read no chip state and write
none. The spec's inputs are real numbers (R151); the functions are written once over any ordered field with a floor, so that they
are the spec's at the reals and can be evaluated at the rationals. The clock and UMAX are arguments (R4). Log entry 15. -/

namespace Sys2Proof.Machine

/-- Why a selection is rejected (R159); results of the functions, not hardware events. -/
inductive SelectorReject where
  /-- `IllegalArgument`: f <= 0 or clock <= 0. -/
  | illegalArgument
  /-- `TicksOverflow`: more ticks than UMAX. -/
  | ticksOverflow
  /-- `FrequencyTooHigh`: less than one tick. -/
  | frequencyTooHigh
  /-- `FrequencyTooLow`: the scaled count does not fit in 16 bits at the largest tap. -/
  | frequencyTooLow
  /-- `TimeTooLong`: the same for the time variant. -/
  | timeTooLong
  /-- `NotADivider`: the SRC field is no tap code (R156). -/
  | notADivider
deriving DecidableEq, Repr

/-- DUTY_THRESHOLD (R4): the scaled count must exceed it. -/
def dutyThreshold : Nat := 7

/-- MIN_TIMER_TICKS (R4). -/
def minTimerTicks : Nat := 3

/-- The largest value a 16-bit register holds. -/
def maxCount : Nat := 65535

-- The numbers of the selector: the reals, the rationals, any ordered field with a floor.
variable {α : Type} [Field α] [LinearOrder α] [FloorRing α]

/-- `round(x) = floor(x + 1/2)` for a non-negative x (R6). -/
def roundHalfUp (x : α) : Nat := (Int.floor (x + 1 / 2)).toNat

/-- `Ticks_f(clock, f) = round(clock / f)` (R151). -/
def ticksOfFrequency (clock f : α) : Nat := roundHalfUp (clock / f)

/-- `Ticks_t(clock, seconds) = round(clock * max(seconds, 0))` (R151). -/
def ticksOfTime (clock seconds : α) : Nat := roundHalfUp (clock * max seconds 0)

/-- `Scaled(t, k) = t div 16^(k-1)` (R152). -/
def scaled (t : Nat) (k : Tap) : Nat := t / k.ratio

/-- The taps whose scaled count exceeds the threshold (R153). -/
def dutyTaps (t : Nat) : List Tap := Tap.all.filter fun k => decide (dutyThreshold < scaled t k)

/-- `max(K)` if K is not empty, else tap 1 (R153). -/
def dutyTap (t : Nat) : Tap := (dutyTaps t).getLast?.getD .f1

/-- `SelectDuty(clock, f)` (R153): the tap and the scaled count. -/
def selectDuty (umax : Nat) (clock f : α) : Except SelectorReject (Tap × Nat) :=
  if f ≤ 0 ∨ clock ≤ 0 then .error .illegalArgument
  else if umax < ticksOfFrequency clock f then .error .ticksOverflow
  else if ticksOfFrequency clock f < 1 then .error .frequencyTooHigh
  else if maxCount < scaled (ticksOfFrequency clock f) (dutyTap (ticksOfFrequency clock f)) then .error .frequencyTooLow
  else .ok (dutyTap (ticksOfFrequency clock f), scaled (ticksOfFrequency clock f) (dutyTap (ticksOfFrequency clock f)))

/-- The taps under which the scaled count fits in 16 bits (R154). -/
def accuracyTaps (t : Nat) : List Tap := Tap.all.filter fun k => decide (scaled t k ≤ maxCount)

/-- `SelectAccuracy(clock, seconds)` (R154): the smallest such tap and the scaled count, at least 3. -/
def selectAccuracy (umax : Nat) (clock seconds : α) : Except SelectorReject (Tap × Nat) :=
  if clock ≤ 0 then .error .illegalArgument
  else if umax < ticksOfTime clock seconds then .error .ticksOverflow
  else match (accuracyTaps (ticksOfTime clock seconds)).head? with
    | none => .error .timeTooLong
    | some k => .ok (k, max minTimerTicks (scaled (ticksOfTime clock seconds) k))

/-- `MergeDivider(m, k)` (R155): bits 11:8 become the code of tap k, the others stay. -/
def mergeDivider (m : Word) (k : Tap) : Word := (m &&& ~~~(0xF#16 <<< enc.posSrc)) ||| (k.code.setWidth 16 <<< enc.posSrc)

/-- `DividerOf(m)` (R156). -/
def dividerOf (m : Word) : Except SelectorReject Tap :=
  match tapOfCode (modeSrc m) with
  | some k => .ok k
  | none => .error .notADivider

/-- `TimeOf(h, m, clock)` in seconds (R157); a clock that is not positive is rejected (R159). -/
def timeOf (h m : Word) (clock : α) : Except SelectorReject α :=
  if clock ≤ 0 then .error .illegalArgument
  else match dividerOf m with
  | .ok k => .ok ((h.toNat : α) * (k.ratio : α) / clock)
  | .error r => .error r

end Sys2Proof.Machine
end

