-- ==== Sys2Proof/Machine/Primitives.lean ====
section
/-! DEFINITION. The source's register-level primitives as lists of instructions (R76), the boot sequence (R192), and the small
computations of the host that the rules state (R47, R198, R203). -/

namespace Sys2Proof.Machine

/-- `1 << (n - 1)`: the mask that names channel n alone (R66). -/
def maskOf (n : Chan) : Mask := 1#5 <<< n.idx

/-- `W v` (R76): one 16-bit write, or two 8-bit writes low byte first. -/
def writeWord (bus16 : Bool) (v : Word) : List Instr := if bus16 then [.dw16 v] else [.dw8 v.low, .dw8 v.high]

/-- `R -> x` (R76): one 16-bit read, or two 8-bit reads. -/
def readWord (bus16 : Bool) : List Instr := if bus16 then [.dr16] else [.dr8, .dr8]

/-- `set_counter_mode` (R76). -/
def setCounterMode (bus16 : Bool) (n : Chan) (v : Word) : List Instr := Instr.select (.mode n) :: writeWord bus16 v

/-- `get_counter_mode` (R76). -/
def getCounterMode (bus16 : Bool) (n : Chan) : List Instr := Instr.select (.mode n) :: readWord bus16

/-- `set_load_register` (R76). -/
def setLoadRegister (bus16 : Bool) (n : Chan) (v : Word) : List Instr := Instr.select (.load n) :: writeWord bus16 v

/-- `get_load_register` (R76). -/
def getLoadRegister (bus16 : Bool) (n : Chan) : List Instr := Instr.select (.load n) :: readWord bus16

/-- `get_hold_register` (R76): no SAVE. -/
def getHoldRegister (bus16 : Bool) (n : Chan) : List Instr := Instr.select (.hold n) :: readWord bus16

/-- `load_counter` (R76). -/
def loadCounter (bus16 : Bool) (n : Chan) (v : Word) : List Instr := setLoadRegister bus16 n v ++ [.load (maskOf n)]

/-- `read_counter` (R76): SAVE, then read the hold register. -/
def readCounter (bus16 : Bool) (n : Chan) : List Instr := Instr.save (maskOf n) :: getHoldRegister bus16 n

/-- `arm_counter` (R76). -/
def armCounter (n : Chan) : List Instr := [.arm (maskOf n)]

/-- `disarm_counter` (R76). -/
def disarmCounter (n : Chan) : List Instr := [.disarm (maskOf n)]

/-- `set_tc` (R76). -/
def setTcPrimitive (n : Chan) : List Instr := [Instr.setTc n]

/-- `clear_tc` (R76). -/
def clearTcPrimitive (n : Chan) : List Instr := [Instr.clearTc n]

/-- `get_status()` (R76). -/
def getStatus : List Instr := [.stat]

/-- The master-mode write (R76). -/
def masterModeWrite (bus16 : Bool) (v : Word) : List Instr := Instr.selectMM :: writeWord bus16 v

/-- Chip open, the boot sequence (R76, R192): RESET, the dummy load of every channel, the master-mode write. -/
def chipOpen (bus16 : Bool) (v : Word) : List Instr := [.reset, .load 0x1F#5] ++ masterModeWrite bus16 v

/-- A list of instructions as the host's port accesses, to a block at port `base` (R8 a, R41). -/
def hostInputs (base : Nat) (p : List Instr) : List Input := p.map fun i => .host (encode base i)

/-- The mode of the single-step procedure (R203): GC and REP cleared. -/
def singleStepMode (m : Word) : Word := m &&& ~~~(7#16 <<< enc.posGC ||| 1#16 <<< enc.posRep)

/-- SINGLE_STEP_TICKS (R4, R203). -/
def singleStepTicks : Word := 4#16

/-- The big-endian composition of a chain's hold values, most significant channel first (R47). -/
def composeChain (hold : List Word) : Nat := hold.foldl (fun v h => v * 65536 + h.toNat) 0

/-- The pulses still to come that a value read from a motor's high channel stands for (R133, R198): 0xFFFF is the sentinel. -/
def pulsesRemaining (v : Word) : Nat := if v = 0xFFFF#16 then 0 else v.toNat + 1

end Sys2Proof.Machine
end

