-- ==== Sys2Proof/Safety.lean ====
section
/-! DEFINITION. What a safe run is, in the terms claims use: the invariant of the protocol state, the states in which no count event
can be refused, and runs that end in a next state. -/

namespace Sys2Proof.Machine

/-- The register's two marks agree: it is specified whole or not at all. -/
def Reg16.whole (r : Reg16) : Prop := r.knownLow = r.knownHigh

/-- What the protocol keeps true (R28, R29, R33, R88, R91, R193). -/
structure Inv (s : State) : Prop where
  /-- The byte phase "stays `Idle` when BUS16 is true" (R29). -/
  wide_idle : s.plat.bus16 = true → s.xfer = .idle
  /-- Between two bytes a register is selected (R82, R91). -/
  mid_target : s.xfer ≠ .idle → s.dp ≠ none
  /-- A half write is never to a hold register (R81, R82). -/
  write_target : s.xfer = .wrHi → ∀ n, s.dp ≠ some (.hold n)
  /-- A half read happens only after boot (R193). -/
  read_ready : s.xfer = .rdHi → s.ready = true
  /-- Before boot is complete no channel is armed (R120, R193). -/
  unready_disarmed : s.ready = false → ∀ n, s.armed.get n = false
  /-- Before boot is complete only MM can be selected, after the dummy load of every channel (R193). -/
  unready_target : s.ready = false → ∀ t, s.dp = some t → t = .mm ∧ s.initLd = allChannels
  /-- The master mode is written after the dummy load of every channel (R192). -/
  boot_order : s.initMm = true → s.initLd = allChannels
  /-- Once the master mode has been written its value is specified (R33, R83). -/
  master_known : s.initMm = true → s.mm.specified = true
  /-- A register is specified whole or not at all, except the one a half write is in the middle of (R88). -/
  whole_register : ∀ t, (s.xfer = .wrHi ∧ s.dp = some t) ∨ (s.reg t).whole
  /-- The counters are specified whole or not at all. -/
  whole_counter : ∀ n, (s.cnt.get n).whole
  /-- In the middle of a write the low byte of the target is specified (R86, R88). -/
  half_written : s.xfer = .wrHi → ∀ t, s.dp = some t → (s.reg t).knownLow = true

/-- Channel n can take any count: what "mode → load → (reload) before arm" leaves (R195, R140). -/
structure Countable (s : State) (n : Chan) : Prop where
  mode_ok : s.modeOK n = true
  gate_known : (s.gateOK n).isSome = true
  count_known : (s.cnt.get n).specified = true
  load_known : (s.load.get n).specified = true
  load_fits : smallLoad (modeUp (s.modeVal n)) (s.tapped n) (s.load.get n).val = false

/-- Every armed channel can take any count: no count event is refused in such a state. -/
def EventSafe (s : State) : Prop := ∀ n, s.armed.get n = true → Countable s n

/-- `k` steps from `s` meet no refusal. -/
def SafeRun (k : Nat) (s : State) : Prop := ∃ t, Host.Core.run Sys2Proof.core k s = .next t

/-- `s` with a list of inputs before the rest of its schedule. -/
def State.withInputs (s : State) (is : List Input) : State := { s with schedule := is ++ s.schedule }

end Sys2Proof.Machine
end

