-- ==== Sys2Proof/Certificates/Slice0/Obligations.lean ====
section
/-! DEFINITION. The statements for the provers. Rules marked `[decision: …]` or `[derived: …]` in the spec are the spec's own choices;
a statement that rests on one names the decision. -/

namespace Sys2Proof.Claims

open Sys2Proof.Machine

/-- What a data-port operation leaves alone (R38): everything but the selected register, the data pointer, the byte phase, the note
that the master mode has been written, and the model's records of reads. -/
structure PortFrame (s u : State) : Prop where
  plat : u.plat = s.plat
  cnt : u.cnt = s.cnt
  hold : u.hold = s.hold
  armed : u.armed = s.armed
  tgl : u.tgl = s.tgl
  psc : u.psc = s.psc
  gateIn : u.gateIn = s.gateIn
  initLd : u.initLd = s.initLd
  history : u.history = s.history
  schedule : u.schedule = s.schedule

/-- The refusals of a data-port operation, in the order of R82: width, no target, not booted, mixed direction, hold write. -/
def PortRefusals (i : Instr) (wide write : Bool) : Prop :=
  ∀ s : State,
    (s.plat.bus16 ≠ wide → exec i s = .refused .widthMismatch) ∧
    (s.plat.bus16 = wide → s.dp = none → exec i s = .refused .noTarget) ∧
    ∀ t, s.plat.bus16 = wide → s.dp = some t →
      (s.ready = false → ¬(t = .mm ∧ write = true) → exec i s = .refused .notBooted) ∧
      ((s.ready = true ∨ (t = .mm ∧ write = true)) →
        (s.xfer = .wrHi → write = false → exec i s = .refused .mixedTransfer) ∧
        (s.xfer = .rdHi → write = true → exec i s = .refused .mixedTransfer) ∧
        (s.xfer ≠ .rdHi → write = true → Target.isHold t = true → exec i s = .refused .holdWrite))

/-- Channel n alone is armed. -/
def OnlyArmed (s : State) (n : Chan) : Prop := s.armed.get n = true ∧ ∀ m, m ≠ n → s.armed.get m = false

/-- The counts a counter at v takes before the count that is its terminal count (R127): v down, 0xFFFF - v up. -/
def countsToGo (up : Bool) (v : Word) : Nat := if up then 65535 - v.toNat else v.toNat

/-- A transfer into channel n is not refused (R126, R135): mode and load are specified and the load is not 1 or 2 into a tap-sourced
down-counter. -/
structure Loadable (s : State) (n : Chan) : Prop where
  mode : (s.mode.get n).specified = true
  load : (s.load.get n).specified = true
  fits : (s.modeVal n).getLsbD 3 = true ∨ ((s.modeVal n).extractLsb' 8 4).toNat < 11 ∨
    ((s.load.get n).val ≠ 1#16 ∧ (s.load.get n).val ≠ 2#16)

/-- An edge of polarity `pol` on line k is an active edge of channel n's source (R123): SRC(n) = k and EDGE(n) = pol. -/
def LineHit (s : State) (k : Chan) (pol : Pol) (n : Chan) : Prop :=
  (s.modeVal n).extractLsb' 8 4 = BitVec.ofNat 4 k.num ∧ (s.modeVal n).getLsbD 12 = decide (pol = .falling)

/-- The next clock tick is an active edge of channel n's source (R121, R122): SRC(n) names tap F_k, and the prescaler after the tick
has the edge EDGE(n) of F_k. -/
def TapHit (s : State) (n : Chan) : Prop :=
  ∃ k : Tap, (s.modeVal n).extractLsb' 8 4 = BitVec.ofNat 4 (10 + k.num) ∧
    ((s.modeVal n).getLsbD 12 = false → (s.psc.toNat + 1) % 16 ^ (k.num - 1) = 0) ∧
    ((s.modeVal n).getLsbD 12 = true → k.num = 1 ∨ (s.psc.toNat + 1) % 16 ^ (k.num - 1) = 16 ^ (k.num - 1) / 2)

/-- Channel n took no count: its counter, latch, armed bit and number of pulses are as they were. -/
structure Uncounted (s u : State) (n : Chan) : Prop where
  cnt : u.cnt.get n = s.cnt.get n
  armed : u.armed.get n = s.armed.get n
  tgl : u.tgl.get n = s.tgl.get n
  pulses : u.history.count n = s.history.count n

/-- The value at which a count is the terminal count (R127): 0x0000 down, 0xFFFF up. -/
def lastCount (s : State) (n : Chan) : Word := if (s.modeVal n).getLsbD 3 then 0xFFFF#16 else 0x0000#16

/-- Channel n took exactly one count (R124, R127, R128): one step of its counter, or its terminal count. -/
structure CountedOnce (s u : State) (n : Chan) : Prop where
  specified : (s.cnt.get n).specified = true
  between : (s.cnt.get n).val ≠ lastCount s n →
    u.cnt.get n = .known (if (s.modeVal n).getLsbD 3 then (s.cnt.get n).val + 1#16 else (s.cnt.get n).val - 1#16) ∧
    u.armed.get n = s.armed.get n ∧ u.tgl.get n = s.tgl.get n ∧ u.history.count n = s.history.count n
  terminal : (s.cnt.get n).val = lastCount s n →
    Loadable s n ∧
    u.cnt.get n = .known
      (if (s.modeVal n).getLsbD 3 = false ∧ (s.load.get n).val = 0#16 then 0xFFFF#16 else (s.load.get n).val) ∧
    u.armed.get n = (s.modeVal n).getLsbD 5 ∧
    u.tgl.get n = { s.tgl.get n with
      level := Bool.xor (s.tgl.get n).level (decide ((s.modeVal n).extractLsb' 0 3 = 0b010#3)) } ∧
    u.history.count n = s.history.count n + (if (s.modeVal n).extractLsb' 0 3 = 0b001#3 then 1 else 0)

/-- The channels a count event counts, from the state `s` before it, where it is an active edge for the channels `hit` (R120, R125,
R128): an armed, gated-on channel that is hit, and an armed, gated-on channel with the cascade source whose next lower channel is
counted at its last value, which is that channel's terminal count. -/
inductive Reached (s : State) (hit : Chan → Prop) : Chan → Prop where
  | source (n : Chan) (armed : s.armed.get n = true) (gate : s.gateOK n = some true) (active : hit n) : Reached s hit n
  | cascade (l n : Chan) (below : Reached s hit l) (terminal : (s.cnt.get l).val = lastCount s l) (adjacent : n.num = l.num + 1)
      (source : (s.modeVal n).extractLsb' 8 4 = 0b0000#4) (armed : s.armed.get n = true) (gate : s.gateOK n = some true) :
      Reached s hit n

/-- What a count event that is an active edge for the channels `hit` does at `s` (R120, R124, R125): exactly the reached channels are
counted, each once, cascaded ones among them; `idle` is what it leaves where it hits no armed channel. -/
structure CountsTheChannels (event : Result) (s idle : State) (hit : Chan → Prop) : Prop where
  none_hit : (∀ n, s.armed.get n = true → s.modeOK n = true ∧ s.gateOK n ≠ none ∧ ¬hit n) → event = .ok idle
  counted : ∀ u n, event = .ok u → Reached s hit n → CountedOnce s u n
  uncounted : ∀ u n, event = .ok u → ¬Reached s hit n → Uncounted s u n

/-- The refusals of a count on channel n that any source can meet (R124, R126, R128). -/
def CountRefused (r : Result) (s : State) (n : Chan) : Prop :=
  ((s.cnt.get n).specified = false → r = .error .unspecifiedCount) ∧
  ((s.cnt.get n).specified = true → (s.cnt.get n).val = lastCount s n → (s.load.get n).specified = false →
    r = .error .unspecifiedLoad)

/-- The refusal of a terminal count whose reload is a small load (R126, R128, R135). -/
def SmallReloadRefused (r : Result) (s : State) (n : Chan) : Prop :=
  s.cnt.get n = .known 0#16 → (s.load.get n).specified = true → (s.modeVal n).getLsbD 3 = false →
    11 ≤ ((s.modeVal n).extractLsb' 8 4).toNat → (s.load.get n).val = 1#16 ∨ (s.load.get n).val = 2#16 →
    r = .error .smallLoad

/-- The counter after j of those counts. -/
def countedBy (up : Bool) (v : Word) (j : Nat) : Word := if up then v + BitVec.ofNat 16 j else v - BitVec.ofNat 16 j

end Sys2Proof.Claims

open Sys2Proof Sys2Proof.Machine Sys2Proof.Claims

/-! ### Encoding -/

/-- 30_encoding.md section 3 (decision D4): a byte of each command family, written out from the tables of section 1, decodes to the
command it stands for, and bytes of each reserved range decode to none. -/
def Obligations.SampleBytesDecode : Prop :=
  decodeCommand 0x0B#8 = some .selectLoad3 ∧ decodeCommand 0x01#8 = some .selectMode1 ∧
  decodeCommand 0x13#8 = some .selectHold3 ∧ decodeCommand 0x17#8 = some .selectMM ∧
  decodeCommand 0x24#8 = some (.arm 0b00100#5) ∧ decodeCommand 0x5F#8 = some (.load 0b11111#5) ∧
  decodeCommand 0xA2#8 = some (.save 0b00010#5) ∧ decodeCommand 0xC5#8 = some (.disarm 0b00101#5) ∧
  decodeCommand 0xE3#8 = some .clearTc3 ∧ decodeCommand 0xEB#8 = some .setTc3 ∧ decodeCommand 0xFF#8 = some .reset ∧
  decodeCommand 0x60#8 = none ∧ decodeCommand 0x06#8 = none ∧ decodeCommand 0xE0#8 = none ∧ decodeCommand 0xEE#8 = none

/-- 30_encoding.md sections 1 to 3 (decision D4): the reserved bytes are exactly those of the map's last three rows. -/
def Obligations.ReservedBytesAreTheListedOnes : Prop :=
  ∀ b : Byte, decodeCommand b = none ↔
    b.toNat = 0x00 ∨ (0x06 ≤ b.toNat ∧ b.toNat ≤ 0x08) ∨ (0x0E ≤ b.toNat ∧ b.toNat ≤ 0x10) ∨ b.toNat = 0x16 ∨
    (0x18 ≤ b.toNat ∧ b.toNat ≤ 0x1F) ∨ (0x60 ≤ b.toNat ∧ b.toNat ≤ 0x9F) ∨ b.toNat = 0xE0 ∨
    (0xE6 ≤ b.toNat ∧ b.toNat ≤ 0xE8) ∨ (0xEE ≤ b.toNat ∧ b.toNat ≤ 0xFE)

/-- 30_encoding.md sections 1 to 3 and 20_memory.md section 1 (decisions D3, D4): for every instruction, at every value of its operands and every BASE,
decoding the access that carries it gives it back. -/
def Obligations.DecodeOfEncodeIsTheInstruction : Prop :=
  ∀ (base : Nat) (i : Instr), decodeAccess base (encode base i) = .op i

/-- The other direction: an access that decodes to an instruction is the access that carries that instruction, so no two accesses
mean the same (30_encoding.md section 3, decision D4). -/
def Obligations.EncodeOfDecodeIsTheAccess : Prop :=
  ∀ (base : Nat) (a : Access) (i : Instr), decodeAccess base a = .op i → encode base i = a

/-! ### Steps -/

/-- A step whose next input is an access that decodes to an instruction is that instruction's meaning at the state with the input
taken off the schedule (00_scope.md section 5; decision D33; log entry 8). -/
def Obligations.StepRunsTheDecodedInstruction : Prop :=
  ∀ (s : State) (a : Access) (rest : List Input) (i : Instr),
    s.schedule = .host a :: rest → decodeAccess s.plat.base a = .op i →
      step s = exec i { s with schedule := rest }

/-- A step whose next input is an environment step makes that step; with nothing scheduled the clock ticks (00_scope.md section 5,
20_memory.md section 6; decision D33). That an EMPTY schedule ticks is the model's choice: log entry 8. -/
def Obligations.StepMakesTheEnvironmentStep : Prop :=
  ∀ (s : State) (rest : List Input),
    (s.schedule = [] → step s = outcome (clkTick s)) ∧
    (s.schedule = .clkTick :: rest → step s = outcome (clkTick { s with schedule := rest })) ∧
    (∀ k pol, s.schedule = .srcEdge k pol :: rest → step s = outcome (srcEdge k pol { s with schedule := rest })) ∧
    (∀ k v, s.schedule = .gateSet k v :: rest → step s = outcome (gateSet k v { s with schedule := rest }))

/-- An opcode-table word that decodes to an instruction, placed as the next input, makes the very next step that instruction's
meaning, at the state it was placed in (log entries 9 and 10). -/
def Obligations.PlacedTableWordRunsNext : Prop :=
  ∀ (s : State) (nbits w : Nat) (i : Instr),
    decodeTableWord nbits w = some i → step (s.withFetchWord nbits w) = exec i s

/-- In every state a reserved command byte, a 16-bit access to the command port and any access to a port other than the two are
refused (20_memory.md section 3, 30_encoding.md section 4, 41_counter_control.md section 6; decisions D4, D35). -/
def Obligations.NonOperationsAreRefused : Prop :=
  ∀ (s : State) (rest : List Input) (p : Nat) (b : Byte) (w : Word),
    (s.schedule = .host (.write8 (s.plat.base + 1) b) :: rest → decodeCommand b = none →
      step s = .refused .reservedCommand) ∧
    (s.schedule = .host (.write16 (s.plat.base + 1) w) :: rest → step s = .refused .widthMismatch) ∧
    (s.schedule = .host (.read16 (s.plat.base + 1)) :: rest → step s = .refused .widthMismatch) ∧
    (p ≠ s.plat.base → p ≠ s.plat.base + 1 →
      (s.schedule = .host (.write8 p b) :: rest → step s = .refused .widthMismatch) ∧
      (s.schedule = .host (.write16 p w) :: rest → step s = .refused .widthMismatch) ∧
      (s.schedule = .host (.read8 p) :: rest → step s = .refused .widthMismatch) ∧
      (s.schedule = .host (.read16 p) :: rest → step s = .refused .widthMismatch))

/-! ### SELECT -/

/-- 40_register_access.md section 1 (decision D22): each of the sixteen SELECTs (SELECT_Mode_1 to _5, SELECT_Load_1 to _5,
SELECT_Hold_1 to _5, SELECT_MM), between transfers and after boot (SELECT MM also after the dummy load alone), sets the data pointer
to its target and changes nothing else. -/
def Obligations.SelectSetsTheDataPointer : Prop :=
  ∀ (t : Target) (s : State), s.xfer = .idle → (s.ready = true ∨ (t = .mm ∧ s.initLd = allChannels)) →
    exec (Instr.select t) s = .next { s with dp := some t }

/-- 40_register_access.md sections 1 and 5, 70_reset_and_hazards.md section 2 (decisions D22, D23, D27): where a SELECT is refused. -/
def Obligations.SelectRefusals : Prop :=
  ∀ (t : Target) (s : State),
    (s.xfer ≠ .idle → exec (Instr.select t) s = .refused .midTransfer) ∧
    (s.xfer = .idle → s.ready = false → ¬(t = .mm ∧ s.initLd = allChannels) →
      exec (Instr.select t) s = .refused .notBooted)

/-! ### Data port and status -/

/-- R84. DataWrite16, a 16-bit write to the data port, stores the word in the selected register, completes the transfer and
changes nothing else; its refusals. The completion and the refusals it names are those of decisions D22, D23, D24, D27, D35. -/
def Obligations.DataWrite16StoresTheWord : Prop :=
  (∀ (w : Word) (t : Target) (s : State), s.plat.bus16 = true → s.dp = some t → (s.ready = true ∨ t = .mm) →
    s.xfer ≠ .rdHi → Target.isHold t = false →
      ∃ u, exec (.dw16 w) s = .next u ∧ u.reg t = .known w ∧ (∀ r, r ≠ t → u.reg r = s.reg r) ∧ u.dp = none ∧
        u.xfer = .idle ∧ (u.initMm = true ↔ s.initMm = true ∨ t = .mm) ∧ u.returned = s.returned ∧ u.draws = s.draws ∧
        PortFrame s u) ∧
  (∀ w, PortRefusals (.dw16 w) true true) ∧
  ∀ (base : Nat) (w : Word), decodeAccess base (.write16 base w) = .op (.dw16 w)

/-- R85. DataRead16, a 16-bit read of the data port, returns the selected register, completes the transfer and changes no
register; its refusals. A register whose value is unspecified reads as a free value (log entry 6). The completion and the
refusals it names are those of decisions D22, D23, D27, D35. -/
def Obligations.DataRead16ReturnsTheWord : Prop :=
  (∀ (t : Target) (s : State), s.plat.bus16 = true → s.dp = some t → s.ready = true → s.xfer ≠ .wrHi →
      ∃ u v, exec .dr16 s = .next u ∧ u.returned = s.returned ++ [.data16 v] ∧
        ((s.reg t).specified = true → v = (s.reg t).val) ∧ (∀ r, u.reg r = s.reg r) ∧ u.dp = none ∧ u.xfer = .idle ∧
        u.initMm = s.initMm ∧ PortFrame s u) ∧
  PortRefusals .dr16 true false ∧ ∀ base : Nat, decodeAccess base (.read16 base) = .op .dr16

/-- R86. DataWrite8, an 8-bit write to the data port, writes the low byte first and then the high byte, each reaching its half at
once and leaving the other half as it was; the second completes the transfer; its refusals. The completion and the refusals it
names are those of decisions D22, D23, D24, D27, D35. -/
def Obligations.DataWrite8WritesLowThenHigh : Prop :=
  (∀ (b : Byte) (t : Target) (s : State), s.plat.bus16 = false → s.dp = some t → (s.ready = true ∨ t = .mm) →
    s.xfer ≠ .rdHi → Target.isHold t = false →
      ∃ u, exec (.dw8 b) s = .next u ∧ (∀ r, r ≠ t → u.reg r = s.reg r) ∧ u.returned = s.returned ∧ u.draws = s.draws ∧
        PortFrame s u ∧
        (s.xfer = .idle → (u.reg t).val = Word.ofBytes (s.reg t).val.high b ∧ (u.reg t).knownLow = true ∧
          (u.reg t).knownHigh = (s.reg t).knownHigh ∧ u.dp = some t ∧ u.xfer = .wrHi ∧ u.initMm = s.initMm) ∧
        (s.xfer = .wrHi → (u.reg t).val = Word.ofBytes b (s.reg t).val.low ∧ (u.reg t).knownHigh = true ∧
          (u.reg t).knownLow = (s.reg t).knownLow ∧ u.dp = none ∧ u.xfer = .idle ∧
          (u.initMm = true ↔ s.initMm = true ∨ t = .mm))) ∧
  (∀ b, PortRefusals (.dw8 b) false true) ∧
  ∀ (base : Nat) (b : Byte), decodeAccess base (.write8 base b) = .op (.dw8 b)

/-- R87. DataRead8, an 8-bit read of the data port, returns the low byte first and then the high byte; the second completes the
transfer; its refusals. An unspecified byte reads as a free value (log entry 6). The completion and the refusals it names are those
of decisions D22, D23, D27, D35. -/
def Obligations.DataRead8ReturnsLowThenHigh : Prop :=
  (∀ (t : Target) (s : State), s.plat.bus16 = false → s.dp = some t → s.ready = true → s.xfer ≠ .wrHi →
      ∃ u b, exec .dr8 s = .next u ∧ u.returned = s.returned ++ [.data8 b] ∧ (∀ r, u.reg r = s.reg r) ∧
        u.initMm = s.initMm ∧ PortFrame s u ∧
        (s.xfer = .idle → ((s.reg t).knownLow = true → b = (s.reg t).val.low) ∧ u.dp = some t ∧ u.xfer = .rdHi) ∧
        (s.xfer = .rdHi → ((s.reg t).knownHigh = true → b = (s.reg t).val.high) ∧ u.dp = none ∧ u.xfer = .idle)) ∧
  PortRefusals .dr8 false false ∧ ∀ base : Nat, decodeAccess base (.read8 base) = .op .dr8

/-- 40_register_access.md section 4 and 10_state.md section 5 (decisions D7, D8, D9): a status read returns a byte whose bit n is the
level of output line n wherever that is specified, and changes no field of the block's state. -/
def Obligations.StatusReadShowsTheOutputLines : Prop :=
  ∀ s : State, s.xfer = .idle → s.ready = true →
    ∃ b u, exec .stat s = .next u ∧ u.returned = s.returned ++ [.status b] ∧
      (∀ n v, s.outLine n = some v → b.getLsbD n.num = v) ∧
      u = { s with returned := u.returned, draws := u.draws }

/-- 40_register_access.md sections 4 and 5 (decisions D23, D27): where a status read is refused. -/
def Obligations.StatusReadRefusals : Prop :=
  ∀ s : State, (s.xfer ≠ .idle → exec .stat s = .refused .midTransfer) ∧
    (s.xfer = .idle → s.ready = false → exec .stat s = .refused .notBooted)

/-- 10_state.md section 4 (decision D16): the output line of a channel with a toggle output follows its latch, with an inactive or a
pulse output it is low, and with an unspecified mode or a reserved code it is unspecified. -/
def Obligations.OutputLineFollowsTheMode : Prop :=
  ∀ (s : State) (n : Chan),
    ((s.mode.get n).specified = true → (s.modeVal n).extractLsb' 0 3 = 0b010#3 → (s.tgl.get n).known = true →
      s.outLine n = some (s.tgl.get n).level) ∧
    ((s.mode.get n).specified = true → (s.modeVal n).extractLsb' 0 3 = 0b010#3 → (s.tgl.get n).known = false →
      s.outLine n = none) ∧
    ((s.mode.get n).specified = true → (s.modeVal n).extractLsb' 0 3 = 0b000#3 → s.outLine n = some false) ∧
    ((s.mode.get n).specified = true → (s.modeVal n).extractLsb' 0 3 = 0b001#3 → s.outLine n = some false) ∧
    ((s.mode.get n).specified = true → 3 ≤ ((s.modeVal n).extractLsb' 0 3).toNat → s.outLine n = none) ∧
    ((s.mode.get n).specified = false → s.outLine n = none)

/-- 20_memory.md section 2, 40_register_access.md sections 2 and 3 (decision D23): two 8-bit writes, low byte first, leave the register and the
protocol state that one 16-bit write of `hi ++ lo` leaves on a 16-bit bus. -/
def Obligations.TwoByteWritesAreOneWordWrite : Prop :=
  ∀ (lo hi : Byte) (t : Target) (s : State), s.plat.bus16 = false → s.dp = some t → (s.ready = true ∨ t = .mm) →
    s.xfer = .idle → Target.isHold t = false →
      ∃ u v w, exec (.dw8 lo) s = .next u ∧ exec (.dw8 hi) u = .next v ∧
        exec (.dw16 (Word.ofBytes hi lo)) { s with plat := { s.plat with bus16 := true } } = .next w ∧
        { v with plat := w.plat } = w

/-- 40_register_access.md section 1 (decisions D22, D24): on either bus width, selecting a writable register, writing a word, selecting the register
again and reading returns that word, no bit masked, and no counter, latch, armed bit or other register changes. -/
def Obligations.WrittenRegisterReadsBack : Prop :=
  ∀ (w : Word) (t : Target) (s : State), s.ready = true → s.xfer = .idle → Target.isHold t = false →
    let p := Instr.select t :: writeWord s.plat.bus16 w ++ Instr.select t :: readWord s.plat.bus16
    ∃ u, Host.Core.run Sys2Proof.core p.length (s.withInputs (hostInputs s.plat.base p)) = .next u ∧
      u.returned = s.returned ++ (if s.plat.bus16 then [.data16 w] else [.data8 w.low, .data8 w.high]) ∧
      u.reg t = .known w ∧ (∀ r, r ≠ t → u.reg r = s.reg r) ∧ u.dp = none ∧ u.xfer = .idle ∧ PortFrame s u

/-! ### Counter control -/

/-- R100. ARM, byte `0x20 | S5`, sets the armed bit of every named channel and changes nothing else, whatever the mode: a channel
armed with a mode that fails `ModeOK` makes the next clock tick and source edge refused; its refusals. The common checks and that
refusal are those of decisions D5, D11, D27. -/
def Obligations.ArmSetsTheNamedChannels : Prop :=
  ∀ (m : Mask) (s : State),
    (s.xfer = .idle → s.ready = true →
      ∃ u, exec (.arm m) s = .next u ∧ (∀ n, u.armed.get n = (m.getLsbD (n.num - 1) || s.armed.get n)) ∧
        u = { s with armed := u.armed } ∧
        ∀ n, m.names n = true → s.modeOK n = false →
          clkTick u = .error .badMode ∧ ∀ k pol, srcEdge k pol u = .error .badMode) ∧
    (s.xfer ≠ .idle → exec (.arm m) s = .refused .midTransfer) ∧
    (s.xfer = .idle → s.ready = false → exec (.arm m) s = .refused .notBooted) ∧
    decodeCommand (0x20#8 ||| m.setWidth 8) = some (.arm m)

/-- R101. DISARM, byte `0xC0 | S5`, clears the armed bit of every named channel and changes nothing else; a count delivered to a
channel it named does nothing; its refusals. The common checks are those of decisions D5, D27. -/
def Obligations.DisarmClearsTheNamedChannels : Prop :=
  ∀ (m : Mask) (s : State),
    (s.xfer = .idle → s.ready = true →
      ∃ u, exec (.disarm m) s = .next u ∧ (∀ n, u.armed.get n = (!m.getLsbD (n.num - 1) && s.armed.get n)) ∧
        u = { s with armed := u.armed } ∧
        ∀ n above g, m.names n = true → count (n :: above) g u = .ok u) ∧
    (s.xfer ≠ .idle → exec (.disarm m) s = .refused .midTransfer) ∧
    (s.xfer = .idle → s.ready = false → exec (.disarm m) s = .refused .notBooted) ∧
    decodeCommand (0xC0#8 ||| m.setWidth 8) = some (.disarm m)

/-- 41_counter_control.md section 3, 42_counting.md sections 5 and 8 (decisions D6, D13, D29): after boot LOAD copies the load register of every
named channel into its counter, 0x0000 into a down-counter giving 0xFFFF, and changes nothing else. -/
def Obligations.LoadCopiesTheLoadRegisters : Prop :=
  ∀ (m : Mask) (s : State), s.xfer = .idle → s.ready = true →
    (∀ n, m.names n = true → (s.mode.get n).specified = true ∧ (s.load.get n).specified = true ∧
      ((s.modeVal n).getLsbD 3 = true ∨ ((s.modeVal n).extractLsb' 8 4).toNat < 11 ∨
        ((s.load.get n).val ≠ 1#16 ∧ (s.load.get n).val ≠ 2#16))) →
      ∃ u, exec (.load m) s = .next u ∧
        (∀ n, m.names n = true → u.cnt.get n = .known
          (if (s.modeVal n).getLsbD 3 = false ∧ (s.load.get n).val = 0#16 then 0xFFFF#16 else (s.load.get n).val)) ∧
        (∀ n, m.names n = false → u.cnt.get n = s.cnt.get n) ∧ u = { s with cnt := u.cnt }

/-- 41_counter_control.md section 3, 70_reset_and_hazards.md section 2 (decision D27): before boot is complete LOAD notes the named channels as
loaded and leaves their counters unspecified; nothing else changes. -/
def Obligations.DummyLoadNotesTheChannels : Prop :=
  ∀ (m : Mask) (s : State), s.xfer = .idle → s.ready = false →
    ∃ u, exec (.load m) s = .next u ∧ u.initLd = s.initLd ||| m ∧
      (∀ n, m.names n = true → (u.cnt.get n).specified = false) ∧
      (∀ n, m.names n = false → u.cnt.get n = s.cnt.get n) ∧
      u = { s with cnt := u.cnt, initLd := u.initLd, draws := u.draws }

/-- 41_counter_control.md section 3, 42_counting.md sections 5 and 8 (decisions D26, D27, D29): where a LOAD is refused. A LOAD of any
mask that names a channel whose transfer is refused is refused; the lowest such channel gives the reason (that it is the lowest is
log entry 16). -/
def Obligations.LoadRefusals : Prop :=
  ∀ (n : Chan) (m : Mask) (s : State),
    (s.xfer ≠ .idle → exec (.load m) s = .refused .midTransfer) ∧
    (s.xfer = .idle → s.ready = true → m.names n = true →
      (¬Loadable s n → ∃ r, exec (.load m) s = .refused r ∧
        (r = .unspecifiedMode ∨ r = .unspecifiedLoad ∨ r = .smallLoad)) ∧
      ((∀ j, m.names j = true → j.num < n.num → Loadable s j) →
        ((s.mode.get n).specified = false → exec (.load m) s = .refused .unspecifiedMode) ∧
        ((s.mode.get n).specified = true → (s.load.get n).specified = false →
          exec (.load m) s = .refused .unspecifiedLoad) ∧
        ((s.mode.get n).specified = true → (s.load.get n).specified = true → (s.modeVal n).getLsbD 3 = false →
          11 ≤ ((s.modeVal n).extractLsb' 8 4).toNat → (s.load.get n).val = 1#16 ∨ (s.load.get n).val = 2#16 →
          exec (.load m) s = .refused .smallLoad)))

/-- 41_counter_control.md section 3 (decision D6): SAVE copies the counter of every named channel into its hold register, all at the
same instant and with its specified or unspecified status, and changes nothing else; its refusals. -/
def Obligations.SaveCopiesTheCounters : Prop :=
  ∀ (m : Mask) (s : State),
    (s.xfer = .idle → s.ready = true →
      ∃ u, exec (.save m) s = .next u ∧
        (∀ n, u.hold.get n = if m.getLsbD (n.num - 1) then s.cnt.get n else s.hold.get n) ∧ u = { s with hold := u.hold }) ∧
    (s.xfer ≠ .idle → exec (.save m) s = .refused .midTransfer) ∧
    (s.xfer = .idle → s.ready = false → exec (.save m) s = .refused .notBooted)

/-- 41_counter_control.md section 4 (decisions D16, D37): SET_TC 1 to 5 and CLEAR_TC 1 to 5 give the channel's output latch a
specified level and change nothing else; their refusals. -/
def Obligations.ForcedOutputSetsTheLatch : Prop :=
  ∀ (n : Chan) (s : State),
    (s.xfer = .idle → s.ready = true →
      exec (Instr.setTc n) s = .next { s with tgl := s.tgl.set n { level := true, known := true } } ∧
      exec (Instr.clearTc n) s = .next { s with tgl := s.tgl.set n { level := false, known := true } }) ∧
    (s.xfer ≠ .idle → exec (Instr.setTc n) s = .refused .midTransfer ∧ exec (Instr.clearTc n) s = .refused .midTransfer) ∧
    (s.xfer = .idle → s.ready = false →
      exec (Instr.setTc n) s = .refused .notBooted ∧ exec (Instr.clearTc n) s = .refused .notBooted)

/-- 41_counter_control.md section 5, 10_state.md section 9 (decision D26): RESET is accepted in every state, disarms every channel, clears the data
pointer, the byte phase and the boot bookkeeping, leaves every register, counter and latch unspecified and the external gate levels
as they were. The free values it leaves in the registers and the prescaler are log entry 4. -/
def Obligations.ResetLeavesTheResetValues : Prop :=
  ∀ s : State, ∃ u, exec .reset s = .next u ∧ (∀ n, u.armed.get n = false) ∧ u.dp = none ∧ u.xfer = .idle ∧
    u.initLd = 0#5 ∧ u.initMm = false ∧ u.ready = false ∧ u.gateIn = s.gateIn ∧ u.plat = s.plat ∧
    (∀ t, (u.reg t).knownLow = false ∧ (u.reg t).knownHigh = false) ∧
    (∀ n, (u.cnt.get n).knownLow = false ∧ (u.cnt.get n).knownHigh = false ∧ (u.tgl.get n).known = false) ∧
    u.history = s.history ∧ u.returned = s.returned ∧ u.schedule = s.schedule

/-- 41_counter_control.md section 1 (the rule marks it derived): a command with mask 0, between transfers and after boot, changes
nothing. -/
def Obligations.MaskZeroChangesNothing : Prop :=
  ∀ s : State, s.xfer = .idle →
    exec (.load 0#5) s = .next s ∧
    (s.ready = true → exec (.arm 0#5) s = .next s ∧ exec (.disarm 0#5) s = .next s ∧ exec (.save 0#5) s = .next s)

/-! ### Whole-machine rules -/

/-- 70_reset_and_hazards.md section 2 (decision D27): before boot is complete the only host operations with a meaning are RESET, LOAD,
SELECT MM after the dummy load, and a data write to MM. -/
def Obligations.OnlyTheBootSequenceBeforeReady : Prop :=
  ∀ (i : Instr) (s u : State), s.ready = false → exec i s = .next u →
    i = .reset ∨ (∃ m, i = .load m) ∨ (i = .selectMM ∧ s.initLd = allChannels) ∨
    (s.dp = some .mm ∧ ((∃ w, i = .dw16 w) ∨ ∃ b, i = .dw8 b))

/-- 40_register_access.md section 5 (decision D23): in the middle of an 8-bit transfer, on an 8-bit bus, the only host operations with
a meaning are RESET and the matching second byte. -/
def Obligations.OnlyTheSecondByteMidTransfer : Prop :=
  ∀ (i : Instr) (s u : State), s.plat.bus16 = false → s.xfer ≠ .idle → exec i s = .next u →
    i = .reset ∨ (s.xfer = .wrHi ∧ ∃ b, i = .dw8 b) ∨ (s.xfer = .rdHi ∧ i = .dr8)

/-- 10_state.md section 2 (decision D24 for the refused host write): the hold registers change only in a step that runs SAVE, or
RESET. -/
def Obligations.HoldChangesOnlyBySaveOrReset : Prop :=
  ∀ s u : State, step s = .next u → u.hold ≠ s.hold →
    ∃ a rest i, s.schedule = .host a :: rest ∧ decodeAccess s.plat.base a = .op i ∧ (i = .reset ∨ ∃ m, i = .save m)

/-- 10_state.md sections 1 and 4, 42_counting.md section 5 (decisions D12, D15 for the one-shot): an armed bit changes only by ARM of the
channel (set), by DISARM of the channel or RESET (cleared), or in a count event, a clock tick or a source edge, when the channel is
one-shot (cleared). -/
def Obligations.ArmedChangesOnlyAsListed : Prop :=
  ∀ (s u : State) (n : Chan), step s = .next u → u.armed.get n ≠ s.armed.get n →
    (∃ a rest m, s.schedule = .host a :: rest ∧ decodeAccess s.plat.base a = .op (.arm m) ∧ m.names n = true ∧
      u.armed.get n = true) ∨
    (u.armed.get n = false ∧
      ((∃ a rest m, s.schedule = .host a :: rest ∧ decodeAccess s.plat.base a = .op (.disarm m) ∧ m.names n = true) ∨
       (∃ a rest, s.schedule = .host a :: rest ∧ decodeAccess s.plat.base a = .op .reset) ∨
       ((∀ a rest, s.schedule ≠ .host a :: rest) ∧ (∀ k v rest, s.schedule ≠ .gateSet k v :: rest) ∧
         (s.modeVal n).getLsbD 5 = false)))

/-- 10_state.md sections 2 and 10, 42_counting.md sections 1, 2 and 7 (decisions D11, D17, D19): an environment step writes no load, hold or mode register, no master mode, no data
pointer, no byte phase and no boot bookkeeping, arms no channel, and returns nothing to the host; only `GateSet` changes a gate line
and only `ClkTick` the prescaler. That a step with an EMPTY schedule is a `ClkTick`, and so adds 1 to the prescaler, is the model's
choice: log entry 8. -/
def Obligations.EnvironmentWritesOnlyCountingState : Prop :=
  ∀ s u : State, step s = .next u → (∀ a rest, s.schedule ≠ .host a :: rest) →
    u.load = s.load ∧ u.hold = s.hold ∧ u.mode = s.mode ∧ u.mm = s.mm ∧ u.dp = s.dp ∧ u.xfer = s.xfer ∧
    u.initLd = s.initLd ∧ u.initMm = s.initMm ∧ u.plat = s.plat ∧ u.returned = s.returned ∧
    (∀ n, u.armed.get n = true → s.armed.get n = true) ∧
    (∃ ps, u.history = s.history ++ ps) ∧
    ((∀ k v rest, s.schedule ≠ .gateSet k v :: rest) → u.gateIn = s.gateIn) ∧
    ((s.schedule = [] ∨ ∃ rest, s.schedule = .clkTick :: rest) → u.psc = s.psc + 1#16) ∧
    (s.schedule ≠ [] → (∀ rest, s.schedule ≠ .clkTick :: rest) → u.psc = s.psc)

/-- 10_state.md section 8: the platform parameters are constant over a run. -/
def Obligations.PlatformIsConstant : Prop := ∀ s u : State, step s = .next u → u.plat = s.plat

/-- 10_state.md section 2: the live count reaches the host through SAVE alone. Of two states that differ only in the counters, any
operation but SAVE does the same to both, but for the counters. -/
def Obligations.HostSeesTheCountOnlyThroughSave : Prop :=
  ∀ (i : Instr) (s u : State) (c : PerChan Reg16), (∀ m, i ≠ .save m) → exec i s = .next u →
    ∃ v, exec i { s with cnt := c } = .next v ∧ { v with cnt := u.cnt } = u

/-- Every step keeps the protocol invariant `Inv` (decisions D22, D23, D27: 10_state.md section 8, 40_register_access.md sections 3
and 5, 70_reset_and_hazards.md section 2). -/
def Obligations.EveryStepKeepsTheInvariant : Prop := ∀ s u : State, Inv s → step s = .next u → Inv u

/-- The state after reset meets the protocol invariant. -/
def Obligations.ResetStateMeetsTheInvariant : Prop := Inv State.reset

/-- 42_counting.md section 8, 70_reset_and_hazards.md section 3 (decisions D11, D26): where every armed channel has a legal mode, a specified
gate, counter and load register and a load that R135 does not exclude, a clock tick and a source edge are never refused, and they and
every gate step leave such a state. -/
def Obligations.CountEventsAreSafeAfterProgramming : Prop :=
  ∀ s : State, EventSafe s →
    (∃ u, clkTick s = .ok u ∧ EventSafe u) ∧ (∀ k pol, ∃ u, srcEdge k pol s = .ok u ∧ EventSafe u) ∧
    ∀ k v u, gateSet k v s = .ok u → EventSafe u

/-! ### Environment steps and counting -/

/-- 42_counting.md section 7 (decisions D17, D18): `GateSet` writes the external gate line and nothing else. That a gate step on a line
wired to an output is refused is the model's choice, log entry 12 (the rule: "the step does not exist"). -/
def Obligations.GateSetWritesTheGateLine : Prop :=
  ∀ (k : Chan) (v : Bool) (s : State),
    (s.plat.gateWire.get k = .ext →
      gateSet k v s = .ok { s with gateIn := s.gateIn.set k { level := v, known := true } }) ∧
    (∀ j, s.plat.gateWire.get k = .out j → gateSet k v s = .error .gateNotExternal)

/-- 42_counting.md section 1, 70_reset_and_hazards.md section 2 (decision D11): with no channel armed a clock tick only advances the prescaler and a
source edge does nothing, whatever the modes and counters hold. -/
def Obligations.DisarmedChannelsTakeNoPart : Prop :=
  ∀ s : State, (∀ n, s.armed.get n = false) →
    clkTick s = .ok { s with psc := s.psc + 1#16 } ∧ ∀ k pol, srcEdge k pol s = .ok s

/-- 42_counting.md sections 1, 4 and 7 (decisions D11, D17, D26): where a count event is refused before anything is counted, in the
order of the phases. -/
def Obligations.CountEventRefusals : Prop :=
  ∀ (s : State) (n : Chan) (k : Chan) (pol : Pol), s.armed.get n = true →
    (s.modeOK n = false → clkTick s = .error .badMode ∧ srcEdge k pol s = .error .badMode) ∧
    ((∀ m, s.armed.get m = true → s.modeOK m = true) → s.gateOK n = none →
      clkTick s = .error .unspecifiedGate ∧ srcEdge k pol s = .error .unspecifiedGate)

/-- 42_counting.md section 7, 70_reset_and_hazards.md section 1 (decisions D17, D18, D26): the gate of a channel, from its GC field and its
gate line. An external line that has had no level yet is unspecified, and so is a gate that needs an unspecified line. -/
def Obligations.GateLevelDecidesCounting : Prop :=
  ∀ (s : State) (n : Chan),
    ((s.modeVal n).extractLsb' 13 3 = 0b000#3 → s.gateOK n = some true) ∧
    (∀ v, (s.modeVal n).extractLsb' 13 3 = 0b100#3 → s.gateLine n = some v → s.gateOK n = some v) ∧
    (∀ v, (s.modeVal n).extractLsb' 13 3 = 0b101#3 → s.gateLine n = some v → s.gateOK n = some (!v)) ∧
    (∀ j, s.plat.gateWire.get n = .out j → s.gateLine n = s.outLine j) ∧
    (s.plat.gateWire.get n = .ext → (s.gateIn.get n).known = true → s.gateLine n = some (s.gateIn.get n).level) ∧
    (s.plat.gateWire.get n = .ext → (s.gateIn.get n).known = false → s.gateLine n = none) ∧
    ((s.modeVal n).extractLsb' 13 3 = 0b100#3 → s.gateLine n = none → s.gateOK n = none) ∧
    ((s.modeVal n).extractLsb' 13 3 = 0b101#3 → s.gateLine n = none → s.gateOK n = none)

/-- 42_counting.md section 2 (decision D19): an edge of tap F_k is also an edge of every F_j with j < k. A rising edge of F_k is a
rising edge of F_j; so is a falling edge of F_k; and F1 has both edges in every tick. -/
def Obligations.TapEdgesNest : Prop :=
  ∀ (psc : Word) (j k : Tap),
    (j.num ≤ k.num → tapEdge psc k .rising = true → tapEdge psc j .rising = true) ∧
    (j.num < k.num → tapEdge psc k .falling = true → tapEdge psc j .rising = true) ∧
    tapEdge psc .f1 .rising = true ∧ tapEdge psc .f1 .falling = true

/-- 42_counting.md section 2 (decisions D19, D20): from any prescaler phase the first edge of tap F_k of either polarity comes after at
least 1 and at most 16^(k-1) ticks, and after that exactly every 16^(k-1) ticks; from F2 on a falling edge comes half a period after a
rising one. -/
def Obligations.TapEdgesComeEveryPeriod : Prop :=
  ∀ (psc : Word) (k : Tap) (pol : Pol),
    (∃ d, 1 ≤ d ∧ d ≤ 16 ^ (k.num - 1) ∧ tapEdge (psc + BitVec.ofNat 16 d) k pol = true ∧
      ∀ e, 1 ≤ e → e < d → tapEdge (psc + BitVec.ofNat 16 e) k pol = false) ∧
    (tapEdge psc k pol = true → ∀ e, 1 ≤ e →
      (tapEdge (psc + BitVec.ofNat 16 e) k pol = true ↔ 16 ^ (k.num - 1) ∣ e)) ∧
    (1 < k.num → tapEdge psc k .rising = true →
      tapEdge (psc + BitVec.ofNat 16 (16 ^ (k.num - 1) / 2)) k .falling = true)

/-- 42_counting.md sections 1 to 7 (decisions D11, D12, D15, D16, D17, D19, D20, D21): which channels a source edge and a clock tick count.
An edge of line k counts, once each, the armed and gated-on channels with SRC = k and EDGE = its polarity; a tick counts, once each,
those whose tap has the edge their EDGE field selects; an armed and gated-on channel with the cascade source is counted once where the
channel below it is counted at its terminal count, and so on up the chain; every other channel stays as it was; and an event that is an
active edge for no armed channel is not refused and changes nothing but, for a tick, the prescaler. -/
def Obligations.EventsCountTheirChannels : Prop :=
  ∀ s : State,
    (∀ k pol, CountsTheChannels (srcEdge k pol s) s s (LineHit s k pol)) ∧
    CountsTheChannels (clkTick s) s { s with psc := s.psc + 1#16 } (TapHit s)

/-- 42_counting.md sections 4, 5 and 8 (decisions D12, D26, D29; R140 says the same of a count): where a count is refused once it has
reached an armed, gated-on channel: its counter is unspecified, or its reload is refused. With no other channel armed that is the
refusal of the whole event. -/
def Obligations.RefusedCountsStopTheEvent : Prop :=
  ∀ (s : State) (n : Chan), s.armed.get n = true → s.modeOK n = true →
    (∀ above g, g.get n = true →
      CountRefused (count (n :: above) g s) s n ∧ SmallReloadRefused (count (n :: above) g s) s n) ∧
    (OnlyArmed s n → s.gateOK n = some true →
      (∀ k pol, LineHit s k pol n → CountRefused (srcEdge k pol s) s n) ∧
      (TapHit s n → CountRefused (clkTick s) s n ∧ SmallReloadRefused (clkTick s) s n))

/-- 42_counting.md section 4 (decisions D11, D12): an edge that reaches a disarmed or gated-off channel is lost. -/
def Obligations.LostEdgesChangeNothing : Prop :=
  ∀ (n : Chan) (above : List Chan) (g : PerChan Bool) (s : State),
    (s.armed.get n = false → count (n :: above) g s = .ok s) ∧
    (s.armed.get n = true → s.modeOK n = true → g.get n = false → count (n :: above) g s = .ok s)

/-- 42_counting.md sections 4, 5 and 8 (decisions D12, D14, D16; the rules of section 8 are marked derived): a channel on an external line, alone armed and not gated, takes exactly
`countsToGo` edges that each move its counter by one and change nothing else: v of them counting down from v ("v + 1 pulses
remain"), 0xFFFF - v counting up. The next edge is its terminal count: the counter reloads, a toggle output inverts its latch, a
pulse output emits one pulse, and a one-shot channel disarms itself. -/
def Obligations.TerminalCountComesOnTheNextEvent : Prop :=
  ∀ (s : State) (n k : Chan) (v l : Word), OnlyArmed s n → s.modeOK n = true → modeGC (s.modeVal n) = enc.gcNone →
    modeSrc (s.modeVal n) = lineCode k → s.cnt.get n = .known v → s.load.get n = .known l →
    let up := modeUp (s.modeVal n)
    let edge := Input.srcEdge k (modeEdge (s.modeVal n))
    (∀ j, j ≤ countsToGo up v →
      Host.Core.run Sys2Proof.core j (s.withInputs (List.replicate j edge)) =
        .next { s with cnt := s.cnt.set n (.known (countedBy up v j)) }) ∧
    ∃ u, Host.Core.run Sys2Proof.core (countsToGo up v + 1)
        (s.withInputs (List.replicate (countsToGo up v + 1) edge)) = .next u ∧
      u.cnt = s.cnt.set n (.known (transferValue up l)) ∧
      (modeOC (s.modeVal n) = enc.ocToggle →
        u.tgl = s.tgl.set n { level := !(s.tgl.get n).level, known := (s.tgl.get n).known } ∧ u.history = s.history) ∧
      (modeOC (s.modeVal n) = enc.ocPulse → u.tgl = s.tgl ∧ u.history = s.history ++ [n]) ∧
      (modeOC (s.modeVal n) = enc.ocOff → u.tgl = s.tgl ∧ u.history = s.history) ∧
      u.armed = s.armed.set n (modeRep (s.modeVal n)) ∧
      u = { s with cnt := u.cnt, tgl := u.tgl, armed := u.armed, history := u.history }

/-- 42_counting.md sections 5 and 6 (decisions D12, D15, D16, D21): a delivered count that finds the counter at its end reloads it, acts on the
output, disarms a one-shot channel, and delivers exactly one count to the next channel when that is armed and cascaded, with the
same gate snapshot; otherwise it delivers none. -/
def Obligations.TerminalCountFeedsTheCascade : Prop :=
  ∀ (n m : Chan) (above : List Chan) (g : PerChan Bool) (s u : State), s.armed.get n = true → s.modeOK n = true →
    g.get n = true → (s.cnt.get n).specified = true → atTerminal (modeUp (s.modeVal n)) (s.cnt.get n).val = true →
    m ≠ n → terminalCount n s = .ok u →
      (s.armed.get m = true → (s.modeVal m).extractLsb' 8 4 = 0b0000#4 →
        count (n :: m :: above) g s = count (m :: above) g u) ∧
      (s.armed.get m = false ∨ (s.modeVal m).extractLsb' 8 4 ≠ 0b0000#4 → count (n :: m :: above) g s = .ok u)

/-- 42_counting.md sections 2 and 8 (decisions D12, D19; the rule marks it derived): a continuous down-counter with pulse output on tap F_k,
either edge, load register L at least 3 or 0, alone armed and not gated, its counter as a transfer of L leaves it just after an edge of
its tap, gives one pulse every (L + 1) * 16^(k-1) ticks, with L = 0 every 65536 * 16^(k-1), and nothing else changes but the
prescaler. -/
def Obligations.ContinuousTapPeriod : Prop :=
  ∀ (s : State) (n : Chan) (k : Tap) (l : Word) (j : Nat), OnlyArmed s n → s.modeOK n = true →
    modeGC (s.modeVal n) = enc.gcNone → modeSrc (s.modeVal n) = k.code →
    modeUp (s.modeVal n) = false → modeRep (s.modeVal n) = true → modeOC (s.modeVal n) = enc.ocPulse →
    s.cnt.get n = .known (if l = 0#16 then 0xFFFF#16 else l) → s.load.get n = .known l → 3 ≤ l.toNat ∨ l = 0#16 →
    tapEdge s.psc k (modeEdge (s.modeVal n)) = true →
    let ticks := j * ((if l = 0#16 then 65536 else l.toNat + 1) * 16 ^ (k.num - 1))
    Host.Core.run Sys2Proof.core ticks (s.withInputs (List.replicate ticks .clkTick)) =
      .next { s with psc := s.psc + BitVec.ofNat 16 ticks, history := s.history ++ List.replicate j n }

/-- 42_counting.md sections 6 and 8 (decisions D14, D21; the rules mark it derived): two adjacent channels counting up, the lower continuous on an
external line with load 0 and the upper cascaded, form one wider counter: after E edges the pair holds what it held plus E. -/
def Obligations.CascadedPairIsOneWideCounter : Prop :=
  ∀ (s : State) (n m k : Chan) (a b : Word) (e : Nat), n.next? = some m →
    s.armed.get n = true → s.armed.get m = true → (∀ j, j ≠ n → j ≠ m → s.armed.get j = false) →
    s.modeOK n = true → s.modeOK m = true → modeGC (s.modeVal n) = enc.gcNone → modeGC (s.modeVal m) = enc.gcNone →
    modeSrc (s.modeVal n) = lineCode k → modeSrc (s.modeVal m) = enc.srcCascade →
    modeUp (s.modeVal n) = true → modeUp (s.modeVal m) = true → modeRep (s.modeVal n) = true →
    s.cnt.get n = .known a → s.cnt.get m = .known b → s.load.get n = .known 0#16 →
    b.toNat * 65536 + a.toNat + e < 65536 * 65536 →
    ∃ u, Host.Core.run Sys2Proof.core e
        (s.withInputs (List.replicate e (.srcEdge k (modeEdge (s.modeVal n))))) = .next u ∧
      ∃ a' b', u.cnt.get n = .known a' ∧ u.cnt.get m = .known b' ∧
        b'.toNat * 65536 + a'.toNat = b.toNat * 65536 + a.toNat + e ∧
        (∀ j, j ≠ n → j ≠ m → u.cnt.get j = s.cnt.get j)

/-- 42_counting.md sections 7 and 9 (decisions D17, D18; the rule marks it derived): the self-gated timer. A continuous down-counter with toggle
output on tap F1, its gate wired to its own output, started with the output high and v in the counter, runs v + 1 ticks, reloads,
drops its output and then stands still, still armed, however long the clock goes on. -/
def Obligations.SelfGatedTimerRunsOnceAndStops : Prop :=
  ∀ (s : State) (n : Chan) (v l : Word) (d : Nat), OnlyArmed s n → s.modeOK n = true →
    s.plat.gateWire.get n = .out n → modeGC (s.modeVal n) = enc.gcHigh → modeSrc (s.modeVal n) = Tap.f1.code →
    modeUp (s.modeVal n) = false → modeRep (s.modeVal n) = true → modeOC (s.modeVal n) = enc.ocToggle →
    s.tgl.get n = .is true → s.cnt.get n = .known v → s.load.get n = .known l → l ≠ 1#16 → l ≠ 2#16 →
    let ticks := v.toNat + 1 + d
    Host.Core.run Sys2Proof.core ticks (s.withInputs (List.replicate ticks .clkTick)) =
      .next { s with
        psc := s.psc + BitVec.ofNat 16 ticks
        cnt := s.cnt.set n (.known (transferValue false l))
        tgl := s.tgl.set n (.is false) }

/-- 42_counting.md section 8 (the rule marks it derived): the order in which a count event reaches the channels cannot be observed. Delivering
from channel 5 down to 1 gives the same state as from 1 to 5, and the same pulses, whose order within the one step is not fixed. -/
def Obligations.DeliveryOrderIsNotObservable : Prop :=
  ∀ (s u : State) (g : PerChan Bool) (active : State → Chan → Bool),
    (active = tickActive ∨ ∃ k pol, active = lineActive k pol) → deliver active g Chan.all s = .ok u →
      ∃ w, deliver active g Chan.all.reverse s = .ok w ∧ w = { u with history := w.history } ∧
        List.Perm w.history u.history

/-! ### Boot -/

/-- 70_reset_and_hazards.md section 2 (decision D27): from any state, on either bus width, the boot sequence RESET, LOAD of every
channel, SELECT MM, write of the master mode runs without refusal and ends ready, with the master mode written, every channel
disarmed and no register selected. -/
def Obligations.BootSequenceMakesReady : Prop :=
  ∀ (s : State) (v : Word),
    let p := chipOpen s.plat.bus16 v
    ∃ u, Host.Core.run Sys2Proof.core p.length (s.withInputs (hostInputs s.plat.base p)) = .next u ∧ u.ready = true ∧
      u.mm = .known v ∧ u.dp = none ∧ u.xfer = .idle ∧ (∀ n, u.armed.get n = false) ∧ u.gateIn = s.gateIn ∧
      u.plat = s.plat ∧ u.schedule = s.schedule

/-! ### Frequency-divider selection

Inputs are real numbers (R151); each statement holds over every ordered field with a floor, the reals among them. -/

/-- 43_divider_selection.md sections 2, 3 and 5 (decision D30): the duty-cycle selector returns a count in 1 to 65535, the largest tap whose scaled
count exceeds 7, and tap 1 when none does; it returns whenever the arguments are positive and the ticks are in range. -/
def Obligations.DutySelectorPicksTheLargestTap : Prop :=
  ∀ (α : Type) [Field α] [LinearOrder α] [IsStrictOrderedRing α] [FloorRing α] (umax : Nat) (clock f : α),
    (∀ k c, selectDuty umax clock f = .ok (k, c) →
      1 ≤ c ∧ c ≤ 65535 ∧ c = ticksOfFrequency clock f / 16 ^ (k.num - 1) ∧
      (7 < c → ∀ j : Tap, k.num < j.num → ticksOfFrequency clock f / 16 ^ (j.num - 1) ≤ 7) ∧
      (c ≤ 7 → k = .f1)) ∧
    (0 < f → 0 < clock → 1 ≤ ticksOfFrequency clock f → ticksOfFrequency clock f ≤ umax →
      ticksOfFrequency clock f < 65536 * 65536 → ∃ k c, selectDuty umax clock f = .ok (k, c))

/-- 43_divider_selection.md sections 2, 3 and 5 (decision D30): the accuracy selector returns a count in 3 to 65535 and the smallest tap under
which the scaled count fits in 16 bits; it returns whenever the clock is positive and the ticks are in range. -/
def Obligations.AccuracySelectorPicksTheSmallestTap : Prop :=
  ∀ (α : Type) [Field α] [LinearOrder α] [IsStrictOrderedRing α] [FloorRing α] (umax : Nat) (clock seconds : α),
    (∀ k c, selectAccuracy umax clock seconds = .ok (k, c) →
      3 ≤ c ∧ c ≤ 65535 ∧ c = max 3 (ticksOfTime clock seconds / 16 ^ (k.num - 1)) ∧
      ∀ j : Tap, j.num < k.num → 65535 < ticksOfTime clock seconds / 16 ^ (j.num - 1)) ∧
    (0 < clock → ticksOfTime clock seconds ≤ umax → ticksOfTime clock seconds < 65536 * 65536 →
      ∃ k c, selectAccuracy umax clock seconds = .ok (k, c))

/-- 43_divider_selection.md sections 2 to 5 (decision D30): where the selectors and the read-back reject, one clause for each cause the
spec names. -/
def Obligations.SelectorRejections : Prop :=
  ∀ (α : Type) [Field α] [LinearOrder α] [IsStrictOrderedRing α] [FloorRing α] (umax : Nat) (clock f seconds : α) (m : Word),
    (f ≤ 0 ∨ clock ≤ 0 → selectDuty umax clock f = .error .illegalArgument) ∧
    (clock ≤ 0 → selectAccuracy umax clock seconds = .error .illegalArgument) ∧
    (0 < f → 0 < clock → umax < ticksOfFrequency clock f → selectDuty umax clock f = .error .ticksOverflow) ∧
    (0 < clock → umax < ticksOfTime clock seconds → selectAccuracy umax clock seconds = .error .ticksOverflow) ∧
    (0 < f → 0 < clock → ticksOfFrequency clock f = 0 → selectDuty umax clock f = .error .frequencyTooHigh) ∧
    (0 < f → 0 < clock → 65536 * 65536 ≤ ticksOfFrequency clock f → ticksOfFrequency clock f ≤ umax →
      selectDuty umax clock f = .error .frequencyTooLow) ∧
    (0 < clock → 65536 * 65536 ≤ ticksOfTime clock seconds → ticksOfTime clock seconds ≤ umax →
      selectAccuracy umax clock seconds = .error .timeTooLong) ∧
    ((m.extractLsb' 8 4).toNat < 11 → dividerOf m = .error .notADivider)

/-- 43_divider_selection.md section 5 (the rule marks it derived): both selectors are monotone, a larger tick count never gives a
smaller tap. -/
def Obligations.SelectorsAreMonotone : Prop :=
  ∀ t t' : Nat, t ≤ t' →
    (dutyTap t).num ≤ (dutyTap t').num ∧
    ∀ k k', (accuracyTaps t).head? = some k → (accuracyTaps t').head? = some k' → k.num ≤ k'.num

/-- 43_divider_selection.md section 5 (the rule marks it derived): with at least 3 ticks the time the accuracy selector returns differs from the
requested time by less than (16^(k-1) + 1/2) / clock. -/
def Obligations.AccuracySelectorResolution : Prop :=
  ∀ (α : Type) [Field α] [LinearOrder α] [IsStrictOrderedRing α] [FloorRing α] (umax : Nat) (clock seconds : α) (k : Tap)
    (c : Nat), selectAccuracy umax clock seconds = .ok (k, c) →
    3 ≤ ticksOfTime clock seconds →
      |(c : α) * (16 : α) ^ (k.num - 1) / clock - max seconds 0| < ((16 : α) ^ (k.num - 1) + 1 / 2) / clock

/-- 43_divider_selection.md section 4 (decision D10): merging a tap into a mode value changes bits 11:8 alone, reading the divider
back gives the tap, and with a positive clock the time of a count is the count times the tap's ratio over the clock. -/
def Obligations.MergedDividerReadsBack : Prop :=
  ∀ (α : Type) [Field α] [LinearOrder α] [IsStrictOrderedRing α] [FloorRing α] (m h : Word) (k : Tap) (clock : α),
    dividerOf (mergeDivider m k) = .ok k ∧
    (∀ i, i < 8 ∨ 12 ≤ i → (mergeDivider m k).getLsbD i = m.getLsbD i) ∧
    (0 < clock → timeOf h (mergeDivider m k) clock = .ok ((h.toNat : α) * (16 : α) ^ (k.num - 1) / clock))
end

