-- ==== Sys2Proof/Laws/Channels.lean ====
section
/-! SUPPORT. Reading after writing a channel's entry, the entries of a built file, and the channel order. -/

namespace Sys2Proof

@[simp] theorem PerChan.get_set_same {α : Type} (f : PerChan α) (n : Chan) (v : α) : (f.set n v).get n = v := by
  cases n <;> rfl

theorem PerChan.get_set_ne {α : Type} (f : PerChan α) {n m : Chan} (h : m ≠ n) (v : α) :
    (f.set n v).get m = f.get m := by
  cases n <;> cases m <;> first | rfl | exact absurd rfl h

theorem PerChan.get_set {α : Type} (f : PerChan α) (n m : Chan) (v : α) :
    (f.set n v).get m = if m = n then v else f.get m := by
  by_cases h : m = n
  · subst h; simp
  · simp [h, PerChan.get_set_ne f h]

@[simp] theorem PerChan.get_build {α : Type} (g : Chan → α) (n : Chan) : (PerChan.build g).get n = g n := by
  cases n <;> rfl

/-- Two files with the same entries are the same file. -/
theorem PerChan.ext_get {α : Type} {f g : PerChan α} (h : ∀ n, f.get n = g.get n) : f = g := by
  have h1 := h .c1; have h2 := h .c2; have h3 := h .c3; have h4 := h .c4; have h5 := h .c5
  cases f; cases g
  simp_all [PerChan.get]

@[simp] theorem PerChan.set_get {α : Type} (f : PerChan α) (n : Chan) : f.set n (f.get n) = f :=
  PerChan.ext_get fun m => by rw [PerChan.get_set]; split <;> simp_all

@[simp] theorem PerChan.set_set {α : Type} (f : PerChan α) (n : Chan) (v w : α) : (f.set n v).set n w = f.set n w :=
  PerChan.ext_get fun m => by simp only [PerChan.get_set]; split <;> rfl

theorem PerChan.set_comm {α : Type} (f : PerChan α) {n m : Chan} (h : n ≠ m) (v w : α) :
    (f.set n v).set m w = (f.set m w).set n v :=
  PerChan.ext_get fun k => by simp only [PerChan.get_set]; split <;> split <;> simp_all

@[simp] theorem Chan.mem_all (n : Chan) : n ∈ Chan.all := by cases n <;> simp [Chan.all]

/-- The list of n and the channels above it begins with n. -/
theorem Chan.upFrom_eq (n : Chan) : n.upFrom = n :: (n.next?.elim [] Chan.upFrom) := by cases n <;> rfl

theorem Mask.mem_chans (m : Mask) (n : Chan) : n ∈ m.chans ↔ m.names n = true := by simp [Mask.chans]

@[simp] theorem Mask.names_zero (n : Chan) : Mask.names 0#5 n = false := by cases n <;> rfl

@[simp] theorem Mask.names_all (n : Chan) : Mask.names 0x1F#5 n = true := by cases n <;> rfl

/-- Bit i of `hi ++ lo`. -/
theorem Word.getLsbD_ofBytes (hi lo : Byte) (i : Nat) :
    (Word.ofBytes hi lo).getLsbD i = if i < 8 then lo.getLsbD i else hi.getLsbD (i - 8) := by
  show (hi ++ lo : BitVec (8 + 8)).getLsbD i = _
  rw [BitVec.getLsbD_append]

theorem Word.getLsbD_low (w : Word) (i : Nat) : w.low.getLsbD i = (decide (i < 8) && w.getLsbD i) := by
  simp [Word.low, BitVec.getLsbD_extractLsb']

theorem Word.getLsbD_high (w : Word) (i : Nat) : w.high.getLsbD i = (decide (i < 8) && w.getLsbD (8 + i)) := by
  simp [Word.high, BitVec.getLsbD_extractLsb']

@[simp] theorem Word.low_ofBytes (hi lo : Byte) : (Word.ofBytes hi lo).low = lo := by
  apply BitVec.eq_of_getLsbD_eq
  intro i h
  rw [Word.getLsbD_low, Word.getLsbD_ofBytes, if_pos h, decide_eq_true h, Bool.true_and]

@[simp] theorem Word.high_ofBytes (hi lo : Byte) : (Word.ofBytes hi lo).high = hi := by
  apply BitVec.eq_of_getLsbD_eq
  intro i h
  rw [Word.getLsbD_high, Word.getLsbD_ofBytes, if_neg (by omega), decide_eq_true h, Bool.true_and, Nat.add_sub_cancel_left]

@[simp] theorem Word.ofBytes_high_low (w : Word) : Word.ofBytes w.high w.low = w := by
  apply BitVec.eq_of_getLsbD_eq
  intro i h
  rw [Word.getLsbD_ofBytes, Word.getLsbD_low, Word.getLsbD_high]
  by_cases h8 : i < 8
  · simp [h8]
  · rw [if_neg h8, decide_eq_true (by omega), Bool.true_and, Nat.add_sub_cancel' (by omega)]

/-! ### The cascade's order of channels (R125) -/

/-- The channel above is the one whose number is one more. -/
theorem Chan.next?_eq_some {n m : Chan} : n.next? = some m ↔ m.num = n.num + 1 := by cases n <;> cases m <;> decide

theorem Chan.mem_upFrom {n m : Chan} : m ∈ n.upFrom ↔ n.num ≤ m.num := by cases n <;> cases m <;> decide

theorem Chan.upFrom_nodup (n : Chan) : n.upFrom.Nodup := by cases n <;> decide

end Sys2Proof
end

