-- ==== Sys2Proof/Laws/State.lean ====
section
/-! SUPPORT. One lemma for each field of State under each named update, true by rfl. -/

namespace Sys2Proof.Machine

@[simp] theorem setCnt_plat (s : State) (n : Chan) (r : Reg16) : (s.setCnt n r).plat = s.plat := rfl
@[simp] theorem setCnt_cnt (s : State) (n : Chan) (r : Reg16) : (s.setCnt n r).cnt = s.cnt.set n r := rfl
@[simp] theorem setCnt_load (s : State) (n : Chan) (r : Reg16) : (s.setCnt n r).load = s.load := rfl
@[simp] theorem setCnt_hold (s : State) (n : Chan) (r : Reg16) : (s.setCnt n r).hold = s.hold := rfl
@[simp] theorem setCnt_mode (s : State) (n : Chan) (r : Reg16) : (s.setCnt n r).mode = s.mode := rfl
@[simp] theorem setCnt_armed (s : State) (n : Chan) (r : Reg16) : (s.setCnt n r).armed = s.armed := rfl
@[simp] theorem setCnt_tgl (s : State) (n : Chan) (r : Reg16) : (s.setCnt n r).tgl = s.tgl := rfl
@[simp] theorem setCnt_mm (s : State) (n : Chan) (r : Reg16) : (s.setCnt n r).mm = s.mm := rfl
@[simp] theorem setCnt_dp (s : State) (n : Chan) (r : Reg16) : (s.setCnt n r).dp = s.dp := rfl
@[simp] theorem setCnt_xfer (s : State) (n : Chan) (r : Reg16) : (s.setCnt n r).xfer = s.xfer := rfl
@[simp] theorem setCnt_psc (s : State) (n : Chan) (r : Reg16) : (s.setCnt n r).psc = s.psc := rfl
@[simp] theorem setCnt_gateIn (s : State) (n : Chan) (r : Reg16) : (s.setCnt n r).gateIn = s.gateIn := rfl
@[simp] theorem setCnt_initLd (s : State) (n : Chan) (r : Reg16) : (s.setCnt n r).initLd = s.initLd := rfl
@[simp] theorem setCnt_initMm (s : State) (n : Chan) (r : Reg16) : (s.setCnt n r).initMm = s.initMm := rfl
@[simp] theorem setCnt_history (s : State) (n : Chan) (r : Reg16) : (s.setCnt n r).history = s.history := rfl
@[simp] theorem setCnt_returned (s : State) (n : Chan) (r : Reg16) : (s.setCnt n r).returned = s.returned := rfl
@[simp] theorem setCnt_schedule (s : State) (n : Chan) (r : Reg16) : (s.setCnt n r).schedule = s.schedule := rfl
@[simp] theorem setCnt_draws (s : State) (n : Chan) (r : Reg16) : (s.setCnt n r).draws = s.draws := rfl

@[simp] theorem setLoad_plat (s : State) (n : Chan) (r : Reg16) : (s.setLoad n r).plat = s.plat := rfl
@[simp] theorem setLoad_cnt (s : State) (n : Chan) (r : Reg16) : (s.setLoad n r).cnt = s.cnt := rfl
@[simp] theorem setLoad_load (s : State) (n : Chan) (r : Reg16) : (s.setLoad n r).load = s.load.set n r := rfl
@[simp] theorem setLoad_hold (s : State) (n : Chan) (r : Reg16) : (s.setLoad n r).hold = s.hold := rfl
@[simp] theorem setLoad_mode (s : State) (n : Chan) (r : Reg16) : (s.setLoad n r).mode = s.mode := rfl
@[simp] theorem setLoad_armed (s : State) (n : Chan) (r : Reg16) : (s.setLoad n r).armed = s.armed := rfl
@[simp] theorem setLoad_tgl (s : State) (n : Chan) (r : Reg16) : (s.setLoad n r).tgl = s.tgl := rfl
@[simp] theorem setLoad_mm (s : State) (n : Chan) (r : Reg16) : (s.setLoad n r).mm = s.mm := rfl
@[simp] theorem setLoad_dp (s : State) (n : Chan) (r : Reg16) : (s.setLoad n r).dp = s.dp := rfl
@[simp] theorem setLoad_xfer (s : State) (n : Chan) (r : Reg16) : (s.setLoad n r).xfer = s.xfer := rfl
@[simp] theorem setLoad_psc (s : State) (n : Chan) (r : Reg16) : (s.setLoad n r).psc = s.psc := rfl
@[simp] theorem setLoad_gateIn (s : State) (n : Chan) (r : Reg16) : (s.setLoad n r).gateIn = s.gateIn := rfl
@[simp] theorem setLoad_initLd (s : State) (n : Chan) (r : Reg16) : (s.setLoad n r).initLd = s.initLd := rfl
@[simp] theorem setLoad_initMm (s : State) (n : Chan) (r : Reg16) : (s.setLoad n r).initMm = s.initMm := rfl
@[simp] theorem setLoad_history (s : State) (n : Chan) (r : Reg16) : (s.setLoad n r).history = s.history := rfl
@[simp] theorem setLoad_returned (s : State) (n : Chan) (r : Reg16) : (s.setLoad n r).returned = s.returned := rfl
@[simp] theorem setLoad_schedule (s : State) (n : Chan) (r : Reg16) : (s.setLoad n r).schedule = s.schedule := rfl
@[simp] theorem setLoad_draws (s : State) (n : Chan) (r : Reg16) : (s.setLoad n r).draws = s.draws := rfl

@[simp] theorem setHold_plat (s : State) (n : Chan) (r : Reg16) : (s.setHold n r).plat = s.plat := rfl
@[simp] theorem setHold_cnt (s : State) (n : Chan) (r : Reg16) : (s.setHold n r).cnt = s.cnt := rfl
@[simp] theorem setHold_load (s : State) (n : Chan) (r : Reg16) : (s.setHold n r).load = s.load := rfl
@[simp] theorem setHold_hold (s : State) (n : Chan) (r : Reg16) : (s.setHold n r).hold = s.hold.set n r := rfl
@[simp] theorem setHold_mode (s : State) (n : Chan) (r : Reg16) : (s.setHold n r).mode = s.mode := rfl
@[simp] theorem setHold_armed (s : State) (n : Chan) (r : Reg16) : (s.setHold n r).armed = s.armed := rfl
@[simp] theorem setHold_tgl (s : State) (n : Chan) (r : Reg16) : (s.setHold n r).tgl = s.tgl := rfl
@[simp] theorem setHold_mm (s : State) (n : Chan) (r : Reg16) : (s.setHold n r).mm = s.mm := rfl
@[simp] theorem setHold_dp (s : State) (n : Chan) (r : Reg16) : (s.setHold n r).dp = s.dp := rfl
@[simp] theorem setHold_xfer (s : State) (n : Chan) (r : Reg16) : (s.setHold n r).xfer = s.xfer := rfl
@[simp] theorem setHold_psc (s : State) (n : Chan) (r : Reg16) : (s.setHold n r).psc = s.psc := rfl
@[simp] theorem setHold_gateIn (s : State) (n : Chan) (r : Reg16) : (s.setHold n r).gateIn = s.gateIn := rfl
@[simp] theorem setHold_initLd (s : State) (n : Chan) (r : Reg16) : (s.setHold n r).initLd = s.initLd := rfl
@[simp] theorem setHold_initMm (s : State) (n : Chan) (r : Reg16) : (s.setHold n r).initMm = s.initMm := rfl
@[simp] theorem setHold_history (s : State) (n : Chan) (r : Reg16) : (s.setHold n r).history = s.history := rfl
@[simp] theorem setHold_returned (s : State) (n : Chan) (r : Reg16) : (s.setHold n r).returned = s.returned := rfl
@[simp] theorem setHold_schedule (s : State) (n : Chan) (r : Reg16) : (s.setHold n r).schedule = s.schedule := rfl
@[simp] theorem setHold_draws (s : State) (n : Chan) (r : Reg16) : (s.setHold n r).draws = s.draws := rfl

@[simp] theorem setMode_plat (s : State) (n : Chan) (r : Reg16) : (s.setMode n r).plat = s.plat := rfl
@[simp] theorem setMode_cnt (s : State) (n : Chan) (r : Reg16) : (s.setMode n r).cnt = s.cnt := rfl
@[simp] theorem setMode_load (s : State) (n : Chan) (r : Reg16) : (s.setMode n r).load = s.load := rfl
@[simp] theorem setMode_hold (s : State) (n : Chan) (r : Reg16) : (s.setMode n r).hold = s.hold := rfl
@[simp] theorem setMode_mode (s : State) (n : Chan) (r : Reg16) : (s.setMode n r).mode = s.mode.set n r := rfl
@[simp] theorem setMode_armed (s : State) (n : Chan) (r : Reg16) : (s.setMode n r).armed = s.armed := rfl
@[simp] theorem setMode_tgl (s : State) (n : Chan) (r : Reg16) : (s.setMode n r).tgl = s.tgl := rfl
@[simp] theorem setMode_mm (s : State) (n : Chan) (r : Reg16) : (s.setMode n r).mm = s.mm := rfl
@[simp] theorem setMode_dp (s : State) (n : Chan) (r : Reg16) : (s.setMode n r).dp = s.dp := rfl
@[simp] theorem setMode_xfer (s : State) (n : Chan) (r : Reg16) : (s.setMode n r).xfer = s.xfer := rfl
@[simp] theorem setMode_psc (s : State) (n : Chan) (r : Reg16) : (s.setMode n r).psc = s.psc := rfl
@[simp] theorem setMode_gateIn (s : State) (n : Chan) (r : Reg16) : (s.setMode n r).gateIn = s.gateIn := rfl
@[simp] theorem setMode_initLd (s : State) (n : Chan) (r : Reg16) : (s.setMode n r).initLd = s.initLd := rfl
@[simp] theorem setMode_initMm (s : State) (n : Chan) (r : Reg16) : (s.setMode n r).initMm = s.initMm := rfl
@[simp] theorem setMode_history (s : State) (n : Chan) (r : Reg16) : (s.setMode n r).history = s.history := rfl
@[simp] theorem setMode_returned (s : State) (n : Chan) (r : Reg16) : (s.setMode n r).returned = s.returned := rfl
@[simp] theorem setMode_schedule (s : State) (n : Chan) (r : Reg16) : (s.setMode n r).schedule = s.schedule := rfl
@[simp] theorem setMode_draws (s : State) (n : Chan) (r : Reg16) : (s.setMode n r).draws = s.draws := rfl

@[simp] theorem setMm_plat (s : State) (r : Reg16) : (s.setMm r).plat = s.plat := rfl
@[simp] theorem setMm_cnt (s : State) (r : Reg16) : (s.setMm r).cnt = s.cnt := rfl
@[simp] theorem setMm_load (s : State) (r : Reg16) : (s.setMm r).load = s.load := rfl
@[simp] theorem setMm_hold (s : State) (r : Reg16) : (s.setMm r).hold = s.hold := rfl
@[simp] theorem setMm_mode (s : State) (r : Reg16) : (s.setMm r).mode = s.mode := rfl
@[simp] theorem setMm_armed (s : State) (r : Reg16) : (s.setMm r).armed = s.armed := rfl
@[simp] theorem setMm_tgl (s : State) (r : Reg16) : (s.setMm r).tgl = s.tgl := rfl
@[simp] theorem setMm_mm (s : State) (r : Reg16) : (s.setMm r).mm = r := rfl
@[simp] theorem setMm_dp (s : State) (r : Reg16) : (s.setMm r).dp = s.dp := rfl
@[simp] theorem setMm_xfer (s : State) (r : Reg16) : (s.setMm r).xfer = s.xfer := rfl
@[simp] theorem setMm_psc (s : State) (r : Reg16) : (s.setMm r).psc = s.psc := rfl
@[simp] theorem setMm_gateIn (s : State) (r : Reg16) : (s.setMm r).gateIn = s.gateIn := rfl
@[simp] theorem setMm_initLd (s : State) (r : Reg16) : (s.setMm r).initLd = s.initLd := rfl
@[simp] theorem setMm_initMm (s : State) (r : Reg16) : (s.setMm r).initMm = s.initMm := rfl
@[simp] theorem setMm_history (s : State) (r : Reg16) : (s.setMm r).history = s.history := rfl
@[simp] theorem setMm_returned (s : State) (r : Reg16) : (s.setMm r).returned = s.returned := rfl
@[simp] theorem setMm_schedule (s : State) (r : Reg16) : (s.setMm r).schedule = s.schedule := rfl
@[simp] theorem setMm_draws (s : State) (r : Reg16) : (s.setMm r).draws = s.draws := rfl

@[simp] theorem setArmed_plat (s : State) (n : Chan) (v : Bool) : (s.setArmed n v).plat = s.plat := rfl
@[simp] theorem setArmed_cnt (s : State) (n : Chan) (v : Bool) : (s.setArmed n v).cnt = s.cnt := rfl
@[simp] theorem setArmed_load (s : State) (n : Chan) (v : Bool) : (s.setArmed n v).load = s.load := rfl
@[simp] theorem setArmed_hold (s : State) (n : Chan) (v : Bool) : (s.setArmed n v).hold = s.hold := rfl
@[simp] theorem setArmed_mode (s : State) (n : Chan) (v : Bool) : (s.setArmed n v).mode = s.mode := rfl
@[simp] theorem setArmed_armed (s : State) (n : Chan) (v : Bool) : (s.setArmed n v).armed = s.armed.set n v := rfl
@[simp] theorem setArmed_tgl (s : State) (n : Chan) (v : Bool) : (s.setArmed n v).tgl = s.tgl := rfl
@[simp] theorem setArmed_mm (s : State) (n : Chan) (v : Bool) : (s.setArmed n v).mm = s.mm := rfl
@[simp] theorem setArmed_dp (s : State) (n : Chan) (v : Bool) : (s.setArmed n v).dp = s.dp := rfl
@[simp] theorem setArmed_xfer (s : State) (n : Chan) (v : Bool) : (s.setArmed n v).xfer = s.xfer := rfl
@[simp] theorem setArmed_psc (s : State) (n : Chan) (v : Bool) : (s.setArmed n v).psc = s.psc := rfl
@[simp] theorem setArmed_gateIn (s : State) (n : Chan) (v : Bool) : (s.setArmed n v).gateIn = s.gateIn := rfl
@[simp] theorem setArmed_initLd (s : State) (n : Chan) (v : Bool) : (s.setArmed n v).initLd = s.initLd := rfl
@[simp] theorem setArmed_initMm (s : State) (n : Chan) (v : Bool) : (s.setArmed n v).initMm = s.initMm := rfl
@[simp] theorem setArmed_history (s : State) (n : Chan) (v : Bool) : (s.setArmed n v).history = s.history := rfl
@[simp] theorem setArmed_returned (s : State) (n : Chan) (v : Bool) : (s.setArmed n v).returned = s.returned := rfl
@[simp] theorem setArmed_schedule (s : State) (n : Chan) (v : Bool) : (s.setArmed n v).schedule = s.schedule := rfl
@[simp] theorem setArmed_draws (s : State) (n : Chan) (v : Bool) : (s.setArmed n v).draws = s.draws := rfl

@[simp] theorem setTgl_plat (s : State) (n : Chan) (l : Latch) : (s.setTgl n l).plat = s.plat := rfl
@[simp] theorem setTgl_cnt (s : State) (n : Chan) (l : Latch) : (s.setTgl n l).cnt = s.cnt := rfl
@[simp] theorem setTgl_load (s : State) (n : Chan) (l : Latch) : (s.setTgl n l).load = s.load := rfl
@[simp] theorem setTgl_hold (s : State) (n : Chan) (l : Latch) : (s.setTgl n l).hold = s.hold := rfl
@[simp] theorem setTgl_mode (s : State) (n : Chan) (l : Latch) : (s.setTgl n l).mode = s.mode := rfl
@[simp] theorem setTgl_armed (s : State) (n : Chan) (l : Latch) : (s.setTgl n l).armed = s.armed := rfl
@[simp] theorem setTgl_tgl (s : State) (n : Chan) (l : Latch) : (s.setTgl n l).tgl = s.tgl.set n l := rfl
@[simp] theorem setTgl_mm (s : State) (n : Chan) (l : Latch) : (s.setTgl n l).mm = s.mm := rfl
@[simp] theorem setTgl_dp (s : State) (n : Chan) (l : Latch) : (s.setTgl n l).dp = s.dp := rfl
@[simp] theorem setTgl_xfer (s : State) (n : Chan) (l : Latch) : (s.setTgl n l).xfer = s.xfer := rfl
@[simp] theorem setTgl_psc (s : State) (n : Chan) (l : Latch) : (s.setTgl n l).psc = s.psc := rfl
@[simp] theorem setTgl_gateIn (s : State) (n : Chan) (l : Latch) : (s.setTgl n l).gateIn = s.gateIn := rfl
@[simp] theorem setTgl_initLd (s : State) (n : Chan) (l : Latch) : (s.setTgl n l).initLd = s.initLd := rfl
@[simp] theorem setTgl_initMm (s : State) (n : Chan) (l : Latch) : (s.setTgl n l).initMm = s.initMm := rfl
@[simp] theorem setTgl_history (s : State) (n : Chan) (l : Latch) : (s.setTgl n l).history = s.history := rfl
@[simp] theorem setTgl_returned (s : State) (n : Chan) (l : Latch) : (s.setTgl n l).returned = s.returned := rfl
@[simp] theorem setTgl_schedule (s : State) (n : Chan) (l : Latch) : (s.setTgl n l).schedule = s.schedule := rfl
@[simp] theorem setTgl_draws (s : State) (n : Chan) (l : Latch) : (s.setTgl n l).draws = s.draws := rfl

@[simp] theorem setGateIn_plat (s : State) (n : Chan) (l : Latch) : (s.setGateIn n l).plat = s.plat := rfl
@[simp] theorem setGateIn_cnt (s : State) (n : Chan) (l : Latch) : (s.setGateIn n l).cnt = s.cnt := rfl
@[simp] theorem setGateIn_load (s : State) (n : Chan) (l : Latch) : (s.setGateIn n l).load = s.load := rfl
@[simp] theorem setGateIn_hold (s : State) (n : Chan) (l : Latch) : (s.setGateIn n l).hold = s.hold := rfl
@[simp] theorem setGateIn_mode (s : State) (n : Chan) (l : Latch) : (s.setGateIn n l).mode = s.mode := rfl
@[simp] theorem setGateIn_armed (s : State) (n : Chan) (l : Latch) : (s.setGateIn n l).armed = s.armed := rfl
@[simp] theorem setGateIn_tgl (s : State) (n : Chan) (l : Latch) : (s.setGateIn n l).tgl = s.tgl := rfl
@[simp] theorem setGateIn_mm (s : State) (n : Chan) (l : Latch) : (s.setGateIn n l).mm = s.mm := rfl
@[simp] theorem setGateIn_dp (s : State) (n : Chan) (l : Latch) : (s.setGateIn n l).dp = s.dp := rfl
@[simp] theorem setGateIn_xfer (s : State) (n : Chan) (l : Latch) : (s.setGateIn n l).xfer = s.xfer := rfl
@[simp] theorem setGateIn_psc (s : State) (n : Chan) (l : Latch) : (s.setGateIn n l).psc = s.psc := rfl
@[simp] theorem setGateIn_gateIn (s : State) (n : Chan) (l : Latch) : (s.setGateIn n l).gateIn = s.gateIn.set n l := rfl
@[simp] theorem setGateIn_initLd (s : State) (n : Chan) (l : Latch) : (s.setGateIn n l).initLd = s.initLd := rfl
@[simp] theorem setGateIn_initMm (s : State) (n : Chan) (l : Latch) : (s.setGateIn n l).initMm = s.initMm := rfl
@[simp] theorem setGateIn_history (s : State) (n : Chan) (l : Latch) : (s.setGateIn n l).history = s.history := rfl
@[simp] theorem setGateIn_returned (s : State) (n : Chan) (l : Latch) : (s.setGateIn n l).returned = s.returned := rfl
@[simp] theorem setGateIn_schedule (s : State) (n : Chan) (l : Latch) : (s.setGateIn n l).schedule = s.schedule := rfl
@[simp] theorem setGateIn_draws (s : State) (n : Chan) (l : Latch) : (s.setGateIn n l).draws = s.draws := rfl

@[simp] theorem setXfer_plat (s : State) (p : Phase) : (s.setXfer p).plat = s.plat := rfl
@[simp] theorem setXfer_cnt (s : State) (p : Phase) : (s.setXfer p).cnt = s.cnt := rfl
@[simp] theorem setXfer_load (s : State) (p : Phase) : (s.setXfer p).load = s.load := rfl
@[simp] theorem setXfer_hold (s : State) (p : Phase) : (s.setXfer p).hold = s.hold := rfl
@[simp] theorem setXfer_mode (s : State) (p : Phase) : (s.setXfer p).mode = s.mode := rfl
@[simp] theorem setXfer_armed (s : State) (p : Phase) : (s.setXfer p).armed = s.armed := rfl
@[simp] theorem setXfer_tgl (s : State) (p : Phase) : (s.setXfer p).tgl = s.tgl := rfl
@[simp] theorem setXfer_mm (s : State) (p : Phase) : (s.setXfer p).mm = s.mm := rfl
@[simp] theorem setXfer_dp (s : State) (p : Phase) : (s.setXfer p).dp = s.dp := rfl
@[simp] theorem setXfer_xfer (s : State) (p : Phase) : (s.setXfer p).xfer = p := rfl
@[simp] theorem setXfer_psc (s : State) (p : Phase) : (s.setXfer p).psc = s.psc := rfl
@[simp] theorem setXfer_gateIn (s : State) (p : Phase) : (s.setXfer p).gateIn = s.gateIn := rfl
@[simp] theorem setXfer_initLd (s : State) (p : Phase) : (s.setXfer p).initLd = s.initLd := rfl
@[simp] theorem setXfer_initMm (s : State) (p : Phase) : (s.setXfer p).initMm = s.initMm := rfl
@[simp] theorem setXfer_history (s : State) (p : Phase) : (s.setXfer p).history = s.history := rfl
@[simp] theorem setXfer_returned (s : State) (p : Phase) : (s.setXfer p).returned = s.returned := rfl
@[simp] theorem setXfer_schedule (s : State) (p : Phase) : (s.setXfer p).schedule = s.schedule := rfl
@[simp] theorem setXfer_draws (s : State) (p : Phase) : (s.setXfer p).draws = s.draws := rfl

@[simp] theorem emitPulse_plat (s : State) (n : Chan) : (s.emitPulse n).plat = s.plat := rfl
@[simp] theorem emitPulse_cnt (s : State) (n : Chan) : (s.emitPulse n).cnt = s.cnt := rfl
@[simp] theorem emitPulse_load (s : State) (n : Chan) : (s.emitPulse n).load = s.load := rfl
@[simp] theorem emitPulse_hold (s : State) (n : Chan) : (s.emitPulse n).hold = s.hold := rfl
@[simp] theorem emitPulse_mode (s : State) (n : Chan) : (s.emitPulse n).mode = s.mode := rfl
@[simp] theorem emitPulse_armed (s : State) (n : Chan) : (s.emitPulse n).armed = s.armed := rfl
@[simp] theorem emitPulse_tgl (s : State) (n : Chan) : (s.emitPulse n).tgl = s.tgl := rfl
@[simp] theorem emitPulse_mm (s : State) (n : Chan) : (s.emitPulse n).mm = s.mm := rfl
@[simp] theorem emitPulse_dp (s : State) (n : Chan) : (s.emitPulse n).dp = s.dp := rfl
@[simp] theorem emitPulse_xfer (s : State) (n : Chan) : (s.emitPulse n).xfer = s.xfer := rfl
@[simp] theorem emitPulse_psc (s : State) (n : Chan) : (s.emitPulse n).psc = s.psc := rfl
@[simp] theorem emitPulse_gateIn (s : State) (n : Chan) : (s.emitPulse n).gateIn = s.gateIn := rfl
@[simp] theorem emitPulse_initLd (s : State) (n : Chan) : (s.emitPulse n).initLd = s.initLd := rfl
@[simp] theorem emitPulse_initMm (s : State) (n : Chan) : (s.emitPulse n).initMm = s.initMm := rfl
@[simp] theorem emitPulse_history (s : State) (n : Chan) : (s.emitPulse n).history = s.history ++ [n] := rfl
@[simp] theorem emitPulse_returned (s : State) (n : Chan) : (s.emitPulse n).returned = s.returned := rfl
@[simp] theorem emitPulse_schedule (s : State) (n : Chan) : (s.emitPulse n).schedule = s.schedule := rfl
@[simp] theorem emitPulse_draws (s : State) (n : Chan) : (s.emitPulse n).draws = s.draws := rfl

@[simp] theorem giveBack_plat (s : State) (v : Returned) : (s.giveBack v).plat = s.plat := rfl
@[simp] theorem giveBack_cnt (s : State) (v : Returned) : (s.giveBack v).cnt = s.cnt := rfl
@[simp] theorem giveBack_load (s : State) (v : Returned) : (s.giveBack v).load = s.load := rfl
@[simp] theorem giveBack_hold (s : State) (v : Returned) : (s.giveBack v).hold = s.hold := rfl
@[simp] theorem giveBack_mode (s : State) (v : Returned) : (s.giveBack v).mode = s.mode := rfl
@[simp] theorem giveBack_armed (s : State) (v : Returned) : (s.giveBack v).armed = s.armed := rfl
@[simp] theorem giveBack_tgl (s : State) (v : Returned) : (s.giveBack v).tgl = s.tgl := rfl
@[simp] theorem giveBack_mm (s : State) (v : Returned) : (s.giveBack v).mm = s.mm := rfl
@[simp] theorem giveBack_dp (s : State) (v : Returned) : (s.giveBack v).dp = s.dp := rfl
@[simp] theorem giveBack_xfer (s : State) (v : Returned) : (s.giveBack v).xfer = s.xfer := rfl
@[simp] theorem giveBack_psc (s : State) (v : Returned) : (s.giveBack v).psc = s.psc := rfl
@[simp] theorem giveBack_gateIn (s : State) (v : Returned) : (s.giveBack v).gateIn = s.gateIn := rfl
@[simp] theorem giveBack_initLd (s : State) (v : Returned) : (s.giveBack v).initLd = s.initLd := rfl
@[simp] theorem giveBack_initMm (s : State) (v : Returned) : (s.giveBack v).initMm = s.initMm := rfl
@[simp] theorem giveBack_history (s : State) (v : Returned) : (s.giveBack v).history = s.history := rfl
@[simp] theorem giveBack_returned (s : State) (v : Returned) : (s.giveBack v).returned = s.returned ++ [v] := rfl
@[simp] theorem giveBack_schedule (s : State) (v : Returned) : (s.giveBack v).schedule = s.schedule := rfl
@[simp] theorem giveBack_draws (s : State) (v : Returned) : (s.giveBack v).draws = s.draws + 1 := rfl

@[simp] theorem complete_plat (w : Bool) (t : Target) (s : State) : (complete w t s).plat = s.plat := rfl
@[simp] theorem complete_cnt (w : Bool) (t : Target) (s : State) : (complete w t s).cnt = s.cnt := rfl
@[simp] theorem complete_load (w : Bool) (t : Target) (s : State) : (complete w t s).load = s.load := rfl
@[simp] theorem complete_hold (w : Bool) (t : Target) (s : State) : (complete w t s).hold = s.hold := rfl
@[simp] theorem complete_mode (w : Bool) (t : Target) (s : State) : (complete w t s).mode = s.mode := rfl
@[simp] theorem complete_armed (w : Bool) (t : Target) (s : State) : (complete w t s).armed = s.armed := rfl
@[simp] theorem complete_tgl (w : Bool) (t : Target) (s : State) : (complete w t s).tgl = s.tgl := rfl
@[simp] theorem complete_mm (w : Bool) (t : Target) (s : State) : (complete w t s).mm = s.mm := rfl
@[simp] theorem complete_dp (w : Bool) (t : Target) (s : State) : (complete w t s).dp = none := rfl
@[simp] theorem complete_xfer (w : Bool) (t : Target) (s : State) : (complete w t s).xfer = .idle := rfl
@[simp] theorem complete_psc (w : Bool) (t : Target) (s : State) : (complete w t s).psc = s.psc := rfl
@[simp] theorem complete_gateIn (w : Bool) (t : Target) (s : State) : (complete w t s).gateIn = s.gateIn := rfl
@[simp] theorem complete_initLd (w : Bool) (t : Target) (s : State) : (complete w t s).initLd = s.initLd := rfl
@[simp] theorem complete_initMm (w : Bool) (t : Target) (s : State) : (complete w t s).initMm = (s.initMm || (w && decide (t = .mm))) := rfl
@[simp] theorem complete_history (w : Bool) (t : Target) (s : State) : (complete w t s).history = s.history := rfl
@[simp] theorem complete_returned (w : Bool) (t : Target) (s : State) : (complete w t s).returned = s.returned := rfl
@[simp] theorem complete_schedule (w : Bool) (t : Target) (s : State) : (complete w t s).schedule = s.schedule := rfl
@[simp] theorem complete_draws (w : Bool) (t : Target) (s : State) : (complete w t s).draws = s.draws := rfl

end Sys2Proof.Machine
end

