-- ==== Sys2Proof/Laws/Ops.lean ====
section
/-! SUPPORT. What each shared operation of Machine/Ops.lean can do, said once. -/

namespace Sys2Proof.Machine

/-! ### Results -/

@[simp] theorem outcome_ok (s : State) : outcome (.ok s) = .next s := rfl

@[simp] theorem outcome_error (r : Refusal) : outcome (.error r) = .refused r := rfl

theorem outcome_eq_next {r : Result} {t : State} : outcome r = .next t ↔ r = .ok t := by
  cases r <;> simp [outcome]

theorem outcome_eq_refused {r : Result} {e : Refusal} : outcome r = .refused e ↔ r = .error e := by
  cases r <;> simp [outcome]

/-- No operation of the block ends in a fault (R170). -/
theorem outcome_ne_fault (r : Result) (f : Fault) : outcome r ≠ .fault f := nomatch f

/-! ### Registers -/

@[simp] theorem specified_known (w : Word) : (Reg16.known w).specified = true := rfl

@[simp] theorem specified_unknown (w : Word) : (Reg16.unknown w).specified = false := rfl

@[simp] theorem val_known (w : Word) : (Reg16.known w).val = w := rfl

/-- A read of a specified register returns what it holds, whatever the free value. -/
theorem read_of_specified {r : Reg16} (h : r.specified = true) (free : Word) : r.read free = r.val := by
  simp only [Reg16.specified, Bool.and_eq_true] at h
  simp [Reg16.read, Reg16.readLow, Reg16.readHigh, h.1, h.2]

/-- Writing both bytes gives a specified register that holds them (R42, R88). -/
theorem writeHigh_writeLow (r : Reg16) (lo hi : Byte) :
    (r.writeLow lo).writeHigh hi = .known (Word.ofBytes hi lo) := by
  simp [Reg16.writeLow, Reg16.writeHigh, Reg16.known]

/-- Reading `Reg(t)` after writing `Reg(u)`. -/
theorem reg_setReg (s : State) (t u : Target) (r : Reg16) :
    (s.setReg u r).reg t = if t = u then r else s.reg t := by
  cases u <;> cases t <;> simp [State.setReg, State.reg, PerChan.get_set]

@[simp] theorem reg_setReg_same (s : State) (t : Target) (r : Reg16) : (s.setReg t r).reg t = r := by
  simp [reg_setReg]

@[simp] theorem setReg_plat (s : State) (t : Target) (r : Reg16) : (s.setReg t r).plat = s.plat := by cases t <;> rfl
@[simp] theorem setReg_cnt (s : State) (t : Target) (r : Reg16) : (s.setReg t r).cnt = s.cnt := by cases t <;> rfl
@[simp] theorem setReg_armed (s : State) (t : Target) (r : Reg16) : (s.setReg t r).armed = s.armed := by cases t <;> rfl
@[simp] theorem setReg_tgl (s : State) (t : Target) (r : Reg16) : (s.setReg t r).tgl = s.tgl := by cases t <;> rfl
@[simp] theorem setReg_dp (s : State) (t : Target) (r : Reg16) : (s.setReg t r).dp = s.dp := by cases t <;> rfl
@[simp] theorem setReg_xfer (s : State) (t : Target) (r : Reg16) : (s.setReg t r).xfer = s.xfer := by cases t <;> rfl
@[simp] theorem setReg_psc (s : State) (t : Target) (r : Reg16) : (s.setReg t r).psc = s.psc := by cases t <;> rfl
@[simp] theorem setReg_gateIn (s : State) (t : Target) (r : Reg16) : (s.setReg t r).gateIn = s.gateIn := by cases t <;> rfl
@[simp] theorem setReg_initLd (s : State) (t : Target) (r : Reg16) : (s.setReg t r).initLd = s.initLd := by cases t <;> rfl
@[simp] theorem setReg_initMm (s : State) (t : Target) (r : Reg16) : (s.setReg t r).initMm = s.initMm := by cases t <;> rfl
@[simp] theorem setReg_history (s : State) (t : Target) (r : Reg16) : (s.setReg t r).history = s.history := by cases t <;> rfl
@[simp] theorem setReg_returned (s : State) (t : Target) (r : Reg16) : (s.setReg t r).returned = s.returned := by cases t <;> rfl
@[simp] theorem setReg_schedule (s : State) (t : Target) (r : Reg16) : (s.setReg t r).schedule = s.schedule := by cases t <;> rfl
@[simp] theorem setReg_draws (s : State) (t : Target) (r : Reg16) : (s.setReg t r).draws = s.draws := by cases t <;> rfl

/-! ### Preconditions -/

/-- `CmdPre` lets a command run exactly between transfers and after boot (R107). -/
theorem cmdPre_eq_ok {s t : State} {op : Result} :
    cmdPre s op = .ok t ↔ s.xfer = .idle ∧ s.ready = true ∧ op = .ok t := by
  unfold cmdPre
  split
  · simp_all
  · split <;> simp_all

/-- The same for LOAD, which boot does not hold back (R107). -/
theorem loadPre_eq_ok {s t : State} {op : Result} : loadPre s op = .ok t ↔ s.xfer = .idle ∧ op = .ok t := by
  unfold loadPre
  split <;> simp_all

/-- `DataPre` lets a data-port operation run on target t exactly when none of its six checks fails (R82). -/
theorem dataPre_eq_ok {wide write : Bool} {s u : State} {op : Target → Result} :
    dataPre wide write s op = .ok u ↔
      wide = s.plat.bus16 ∧ ∃ t, s.dp = some t ∧ (s.ready = true ∨ (t = .mm ∧ write = true)) ∧
        ¬(s.xfer = .wrHi ∧ write = false) ∧ ¬(s.xfer = .rdHi ∧ write = true) ∧
        ¬(write = true ∧ Target.isHold t = true) ∧ op t = .ok u := by
  unfold dataPre
  split
  · simp_all
  · cases hd : s.dp with
    | none => simp
    | some t =>
      simp only [Option.some.injEq, exists_eq_left']
      by_cases h1 : s.ready = false ∧ ¬(t = .mm ∧ write = true)
      · rw [if_pos h1]
        simp only [reduceCtorEq, false_iff]
        rintro ⟨-, h, -⟩
        rcases h with h | h
        · simp [h] at h1
        · exact h1.2 h
      · rw [if_neg h1]
        have h1' : s.ready = true ∨ (t = .mm ∧ write = true) := by
          by_cases hr : s.ready = true
          · exact .inl hr
          · exact .inr (by simpa [hr] using h1)
        split
        · simp_all
        · split
          · simp_all
          · split
            · simp_all
            · simp_all

/-- Between transfers and after boot a command is its own effect (R107). -/
theorem cmdPre_of {s : State} (hx : s.xfer = .idle) (hr : s.ready = true) (op : Result) : cmdPre s op = op := by
  simp [cmdPre, hx, hr]

theorem loadPre_of {s : State} (hx : s.xfer = .idle) (op : Result) : loadPre s op = op := by simp [loadPre, hx]

/-! ### Named channels -/

@[simp] theorem get_setNamed {α : Type} (f : PerChan α) (m : Mask) (v : Chan → α) (n : Chan) :
    (setNamed f m v).get n = if m.names n then v n else f.get n := by simp [setNamed]

/-- A mask of zero names no channel (R107). -/
@[simp] theorem setNamed_zero {α : Type} (f : PerChan α) (v : Chan → α) : setNamed f 0#5 v = f :=
  PerChan.ext_get fun n => by simp

end Sys2Proof.Machine
end

