-- ==== Sys2Proof/Laws/Counting.lean ====
section
/-! SUPPORT. What a transfer, a terminal count, a count and a count event can do, said once. -/

namespace Sys2Proof.Machine

/-! ### The frame of the counting logic -/

/-- What counting leaves alone (R12, R13, R14, R38): every field but the counters, the latches' levels, the armed bits and the event
history; and how it changes those. -/
structure EventFrame (s t : State) : Prop where
  plat : t.plat = s.plat
  load : t.load = s.load
  hold : t.hold = s.hold
  mode : t.mode = s.mode
  mm : t.mm = s.mm
  dp : t.dp = s.dp
  xfer : t.xfer = s.xfer
  psc : t.psc = s.psc
  gateIn : t.gateIn = s.gateIn
  initLd : t.initLd = s.initLd
  initMm : t.initMm = s.initMm
  returned : t.returned = s.returned
  schedule : t.schedule = s.schedule
  draws : t.draws = s.draws
  armed : ∀ n, t.armed.get n = true → s.armed.get n = true
  latch : ∀ n, (t.tgl.get n).known = (s.tgl.get n).known
  cnt : ∀ n, t.cnt.get n = s.cnt.get n ∨ (t.cnt.get n).specified = true
  history : ∃ ps, t.history = s.history ++ ps

theorem EventFrame.refl (s : State) : EventFrame s s :=
  { plat := rfl, load := rfl, hold := rfl, mode := rfl, mm := rfl, dp := rfl, xfer := rfl, psc := rfl, gateIn := rfl,
    initLd := rfl, initMm := rfl, returned := rfl, schedule := rfl, draws := rfl, armed := fun _ h => h,
    latch := fun _ => rfl, cnt := fun _ => .inl rfl, history := ⟨[], by simp⟩ }

theorem EventFrame.trans {s t u : State} (a : EventFrame s t) (b : EventFrame t u) : EventFrame s u :=
  { plat := b.plat.trans a.plat, load := b.load.trans a.load, hold := b.hold.trans a.hold,
    mode := b.mode.trans a.mode, mm := b.mm.trans a.mm, dp := b.dp.trans a.dp, xfer := b.xfer.trans a.xfer,
    psc := b.psc.trans a.psc, gateIn := b.gateIn.trans a.gateIn, initLd := b.initLd.trans a.initLd,
    initMm := b.initMm.trans a.initMm, returned := b.returned.trans a.returned,
    schedule := b.schedule.trans a.schedule, draws := b.draws.trans a.draws,
    armed := fun n h => a.armed n (b.armed n h)
    latch := fun n => (b.latch n).trans (a.latch n)
    cnt := fun n => by
      rcases b.cnt n with h | h
      · rw [h]; exact a.cnt n
      · exact .inr h
    history := by
      obtain ⟨p, hp⟩ := a.history
      obtain ⟨q, hq⟩ := b.history
      exact ⟨p ++ q, by rw [hq, hp, List.append_assoc]⟩ }

/-- Writing a specified value into a counter is within the frame. -/
theorem setCnt_frame (s : State) (n : Chan) (w : Word) : EventFrame s (s.setCnt n (.known w)) :=
  { EventFrame.refl s with
    cnt := fun m => by
      rw [setCnt_cnt, PerChan.get_set]
      split
      · exact .inr rfl
      · exact .inl rfl }

/-! ### Transfer and terminal count -/

/-- A transfer happens exactly when mode and load are specified and the load is not one R135 excludes (R126). -/
theorem transfer_eq_ok {n : Chan} {s t : State} :
    transfer n s = .ok t ↔
      (s.mode.get n).specified = true ∧ (s.load.get n).specified = true ∧
        smallLoad (modeUp (s.modeVal n)) (s.tapped n) (s.load.get n).val = false ∧
        t = s.setCnt n (.known (transferValue (modeUp (s.modeVal n)) (s.load.get n).val)) := by
  unfold transfer
  split
  · simp_all
  · split
    · simp_all
    · split
      · simp_all
      · rename_i h1 h2 h3
        rw [Except.ok.injEq]
        exact ⟨fun h => ⟨by simpa using h1, by simpa using h2, by simpa using h3, h.symm⟩, fun h => h.2.2.2.symm⟩

theorem transfer_frame {n : Chan} {s t : State} (h : transfer n s = .ok t) : EventFrame s t := by
  obtain ⟨-, -, -, rfl⟩ := transfer_eq_ok.mp h
  exact setCnt_frame s n _

theorem tcOutput_frame (n : Chan) (s : State) : EventFrame s (tcOutput n s) := by
  unfold tcOutput
  split
  · exact { EventFrame.refl s with
      latch := fun m => by
        rw [setTgl_tgl, PerChan.get_set]
        split
        · simp_all
        · rfl }
  · split
    · exact { EventFrame.refl s with history := ⟨[n], rfl⟩ }
    · exact EventFrame.refl s

theorem tcDisarm_frame (n : Chan) (s : State) : EventFrame s (tcDisarm n s) := by
  unfold tcDisarm
  split
  · exact EventFrame.refl s
  · exact { EventFrame.refl s with
      armed := fun m h => by
        rw [setArmed_armed, PerChan.get_set] at h
        split at h
        · cases h
        · exact h }

/-- A terminal count reloads, acts on the output and disarms, in that order (R128). -/
theorem terminalCount_eq_ok {n : Chan} {s t : State} :
    terminalCount n s = .ok t ↔ ∃ u, transfer n s = .ok u ∧ t = tcDisarm n (tcOutput n u) := by
  unfold terminalCount
  cases h : transfer n s <;> simp [eq_comm]

theorem terminalCount_frame {n : Chan} {s t : State} (h : terminalCount n s = .ok t) : EventFrame s t := by
  obtain ⟨u, hu, rfl⟩ := terminalCount_eq_ok.mp h
  exact ((transfer_frame hu).trans (tcOutput_frame n u)).trans (tcDisarm_frame n _)

/-! ### Count -/

/-- Everything one `Count` can do when it is not refused (R124, R125, R127, R128): nothing, one step of the counter, or a terminal
count, which then counts the next channel of the list if that is armed and cascaded. -/
theorem count_cases {n : Chan} {above : List Chan} {g : PerChan Bool} {s t : State}
    (h : count (n :: above) g s = .ok t) :
    (s.armed.get n = false ∧ t = s) ∨
    (s.armed.get n = true ∧ s.modeOK n = true ∧ g.get n = false ∧ t = s) ∨
    (s.armed.get n = true ∧ s.modeOK n = true ∧ g.get n = true ∧ (s.cnt.get n).specified = true ∧
      ((atTerminal (modeUp (s.modeVal n)) (s.cnt.get n).val = false ∧
          t = s.setCnt n (.known (stepValue (modeUp (s.modeVal n)) (s.cnt.get n).val))) ∨
        (atTerminal (modeUp (s.modeVal n)) (s.cnt.get n).val = true ∧ ∃ u, terminalCount n s = .ok u ∧
          ((∃ m rest, above = m :: rest ∧ u.armed.get m = true ∧ u.cascaded m = true ∧ count (m :: rest) g u = .ok t) ∨
            t = u)))) := by
  unfold count at h
  split at h
  · cases h; exact .inl ⟨‹_›, rfl⟩
  · rename_i ha
    have ha : s.armed.get n = true := by simpa using ha
    split at h
    · cases h
    · rename_i hm
      have hm : s.modeOK n = true := by simpa using hm
      split at h
      · cases h; exact .inr (.inl ⟨ha, hm, ‹_›, rfl⟩)
      · rename_i hg
        have hg : g.get n = true := by simpa using hg
        split at h
        · cases h
        · rename_i hc
          have hc : (s.cnt.get n).specified = true := by simpa using hc
          refine .inr (.inr ⟨ha, hm, hg, hc, ?_⟩)
          split at h
          · rename_i ht
            refine .inr ⟨ht, ?_⟩
            cases hu : terminalCount n s with
            | error r => rw [hu] at h; cases h
            | ok u =>
              rw [hu] at h
              refine ⟨u, rfl, ?_⟩
              cases above with
              | nil => cases h; exact .inr rfl
              | cons m rest =>
                simp only at h
                split at h
                · rename_i hb; exact .inl ⟨m, rest, rfl, hb.1, hb.2, h⟩
                · cases h; exact .inr rfl
          · rename_i ht
            cases h
            exact .inl ⟨by simpa using ht, rfl⟩

theorem count_frame : ∀ (l : List Chan) {g : PerChan Bool} {s t : State}, count l g s = .ok t → EventFrame s t
  | [], g, s, t, h => by cases h; exact EventFrame.refl s
  | n :: above, g, s, t, h => by
    rcases count_cases h with ⟨-, rfl⟩ | ⟨-, -, -, rfl⟩ | ⟨-, -, -, -, ⟨-, rfl⟩ | ⟨-, u, hu, hr⟩⟩
    · exact EventFrame.refl _
    · exact EventFrame.refl _
    · exact setCnt_frame s n _
    · rcases hr with ⟨m, rest, rfl, -, -, hc⟩ | rfl
      · exact (terminalCount_frame hu).trans (count_frame (m :: rest) hc)
      · exact terminalCount_frame hu

/-! ### Count events -/

theorem deliver_frame {active : State → Chan → Bool} {g : PerChan Bool} :
    ∀ (l : List Chan) {s t : State}, deliver active g l s = .ok t → EventFrame s t
  | [], s, t, h => by cases h; exact EventFrame.refl s
  | n :: rest, s, t, h => by
    unfold deliver at h
    split at h
    · cases hu : count n.upFrom g s with
      | error r => rw [hu] at h; cases h
      | ok u => rw [hu] at h; exact (count_frame _ hu).trans (deliver_frame rest h)
    · exact deliver_frame rest h

/-- A count event that is not refused passed both checks and delivered its counts (R120). -/
theorem countEvent_eq_ok {active : State → Chan → Bool} {s t : State} :
    countEvent active s = .ok t ↔
      s.modesOK = true ∧ s.gatesOK = true ∧ deliver active s.gates Chan.all s = .ok t := by
  unfold countEvent
  split
  · simp_all
  · split <;> simp_all

theorem modesOK_iff {s : State} : s.modesOK = true ↔ ∀ n, s.armed.get n = true → s.modeOK n = true := by
  simp only [State.modesOK, List.all_eq_true, Chan.mem_all, forall_const, Bool.or_eq_true, Bool.not_eq_true']
  refine forall_congr' fun n => ?_
  cases s.armed.get n <;> simp

theorem gatesOK_iff {s : State} : s.gatesOK = true ↔ ∀ n, s.armed.get n = true → (s.gateOK n).isSome = true := by
  simp only [State.gatesOK, State.gateUnspecified, List.all_eq_true, Chan.mem_all, forall_const, Bool.not_eq_true',
    Bool.and_eq_false_iff]
  refine forall_congr' fun n => ?_
  cases s.armed.get n <;> simp

theorem clkTick_frame {s t : State} (h : clkTick s = .ok t) : EventFrame { s with psc := s.psc + 1#16 } t :=
  deliver_frame _ (countEvent_eq_ok.mp h).2.2

theorem srcEdge_frame {k : Chan} {pol : Pol} {s t : State} (h : srcEdge k pol s = .ok t) : EventFrame s t :=
  deliver_frame _ (countEvent_eq_ok.mp h).2.2

/-- A gate step writes the line and nothing else, and exists only for an external line (R130). -/
theorem gateSet_eq_ok {k : Chan} {v : Bool} {s t : State} :
    gateSet k v s = .ok t ↔ s.plat.gateWire.get k = .ext ∧ t = s.setGateIn k (.is v) := by
  unfold gateSet
  cases h : s.plat.gateWire.get k <;> simp [eq_comm]

end Sys2Proof.Machine
end

