-- ==== Sys2Proof/Laws/Divider.lean ====
section
/-! SUPPORT. What rounding gives, and that the selector evaluated at rational numbers is the selector at the reals. -/

namespace Sys2Proof.Machine

variable {α : Type} [Field α] [LinearOrder α] [IsStrictOrderedRing α] [FloorRing α]

/-- A rounded non-negative number is within one half of it, below or above, and never a half below (R6). -/
theorem roundHalfUp_bounds {x : α} (h : 0 ≤ x) : (roundHalfUp x : α) ≤ x + 1 / 2 ∧ x < roundHalfUp x + 1 / 2 := by
  have hx : (0 : ℤ) ≤ ⌊x + 1 / 2⌋ := Int.floor_nonneg.mpr (by positivity)
  have e : (roundHalfUp x : α) = ((⌊x + 1 / 2⌋ : ℤ) : α) := by
    rw [roundHalfUp]
    exact_mod_cast congrArg (Int.cast : ℤ → α) (Int.toNat_of_nonneg hx)
  rw [e]
  refine ⟨Int.floor_le _, ?_⟩
  have := Int.lt_floor_add_one (x + 1 / 2)
  linarith

/-- Rounding a rational number is rounding it as a real number. -/
theorem roundHalfUp_cast (x : ℚ) : roundHalfUp (x : ℝ) = roundHalfUp x := by
  rw [roundHalfUp, roundHalfUp, ← Rat.floor_cast (α := ℝ) (x + 1 / 2)]
  push_cast
  rfl

/-- The ticks of rational arguments are the ticks of the same arguments as reals (R151). -/
theorem ticksOfFrequency_cast (clock f : ℚ) : ticksOfFrequency (clock : ℝ) (f : ℝ) = ticksOfFrequency clock f := by
  rw [ticksOfFrequency, ticksOfFrequency, ← roundHalfUp_cast, Rat.cast_div]

theorem ticksOfTime_cast (clock seconds : ℚ) : ticksOfTime (clock : ℝ) (seconds : ℝ) = ticksOfTime clock seconds := by
  rw [ticksOfTime, ticksOfTime, ← roundHalfUp_cast, Rat.cast_mul, Rat.cast_max, Rat.cast_zero]

/-- The duty-cycle selector at rational arguments is the selector at the same reals (R153). -/
theorem selectDuty_cast (umax : ℕ) (clock f : ℚ) : selectDuty umax (clock : ℝ) (f : ℝ) = selectDuty umax clock f := by
  simp only [selectDuty, ticksOfFrequency_cast, Rat.cast_nonpos]

/-- The accuracy selector at rational arguments is the selector at the same reals (R154). -/
theorem selectAccuracy_cast (umax : ℕ) (clock seconds : ℚ) :
    selectAccuracy umax (clock : ℝ) (seconds : ℝ) = selectAccuracy umax clock seconds := by
  simp only [selectAccuracy, ticksOfTime_cast, Rat.cast_nonpos]

end Sys2Proof.Machine
end

