-- ==== Sys2Proof/Laws/Operands.lean ====
section
/-! SUPPORT. The mode fields as bit fields of the mode value, what count sources exclude each other, and what the flags read. -/

namespace Sys2Proof.Machine

theorem modeGC_def (m : Word) : modeGC m = m.extractLsb' 13 3 := rfl

theorem modeSrc_def (m : Word) : modeSrc m = m.extractLsb' 8 4 := rfl

theorem modeOC_def (m : Word) : modeOC m = m.extractLsb' 0 3 := rfl

theorem modeUp_def (m : Word) : modeUp m = m.getLsbD 3 := rfl

theorem modeRep_def (m : Word) : modeRep m = m.getLsbD 5 := rfl

/-- A legal output code is one of three (R21, R22). -/
theorem ocLegal_iff (c : BitVec 3) : ocLegal c = true ↔ c = 0b000#3 ∨ c = 0b001#3 ∨ c = 0b010#3 := by
  revert c; decide

/-- A legal gating code is one of three (R15, R22). -/
theorem gcLegal_iff (c : BitVec 3) : gcLegal c = true ↔ c = 0b000#3 ∨ c = 0b100#3 ∨ c = 0b101#3 := by
  revert c; decide

/-- The tap codes are 11 to 15, in the order of the taps (R17, R150). -/
theorem tapOfCode_code (k : Tap) : tapOfCode k.code = some k := by cases k <;> decide

/-- A code that names a tap is that tap's code. -/
theorem tapOfCode_eq_some {c : BitVec 4} {k : Tap} : tapOfCode c = some k ↔ c = k.code := by
  cases k <;> revert c <;> decide

/-- SRC codes of at least 11 and no others name a tap (R17, R126). -/
theorem tapOfCode_isSome_iff (c : BitVec 4) : (tapOfCode c).isSome = true ↔ 11 ≤ c.toNat := by
  revert c; decide

/-- A line code names no tap and is not the cascade (R17). -/
theorem lineCode_not_tap (k : Chan) : tapOfCode (lineCode k) = none ∧ lineCode k ≠ enc.srcCascade := by
  cases k <;> decide

/-- A tap code is not the cascade and no line code (R17). -/
theorem tapCode_not_line (k : Tap) (j : Chan) : k.code ≠ enc.srcCascade ∧ k.code ≠ lineCode j := by
  cases k <;> cases j <;> decide

/-- Both edges of a tap as phases of the prescaler: 0, and half a period (R122). F1 has its half period at 0 too. -/
theorem tapEdge_eq (psc : Word) (k : Tap) (pol : Pol) :
    tapEdge psc k pol = decide (psc.toNat % k.ratio = if pol = .falling then k.ratio / 2 else 0) := by
  cases pol
  · rfl
  · cases k
    case f1 => simp [tapEdge, Tap.ratio, Tap.num, Nat.mod_one]
    all_goals rfl

/-- Tap edges e ticks on: the prescaler's wrap at 65536 is a multiple of every ratio (R122). -/
theorem tapEdge_add (psc : Word) (k : Tap) (pol : Pol) (e : Nat) :
    tapEdge (psc + BitVec.ofNat 16 e) k pol =
      decide ((psc.toNat + e) % k.ratio = if pol = .falling then k.ratio / 2 else 0) := by
  have h : k.ratio ∣ 2 ^ 16 := by cases k <;> decide
  rw [tapEdge_eq, BitVec.toNat_add, BitVec.toNat_ofNat, Nat.add_mod_mod, Nat.mod_mod_of_dvd _ h]

/-- SRC(n) >= 0b1011 says the source is a tap (R126). -/
theorem tapped_iff (s : State) (n : Chan) : s.tapped n = true ↔ 11 ≤ ((s.modeVal n).extractLsb' 8 4).toNat := by
  rw [State.tapped, decide_eq_true_iff, modeSrc_def]
  generalize (s.modeVal n).extractLsb' 8 4 = c
  revert c; decide

/-- An external-line source is not tapped, so no load is too small for it (R135). -/
theorem not_tapped_of_line {s : State} {n k : Chan} (h : modeSrc (s.modeVal n) = lineCode k) : s.tapped n = false := by
  rw [State.tapped, h]; cases k <;> decide

/-- A channel whose source has an active edge in a count event is not cascaded: it has one selected source (R120). -/
theorem not_cascaded_of_tickActive {s : State} {n : Chan} (h : tickActive s n = true) : s.cascaded n = false := by
  unfold tickActive at h
  split at h
  · rename_i k hk
    rw [State.cascaded, tapOfCode_eq_some.mp hk]
    exact decide_eq_false (tapCode_not_line k .c1).1
  · cases h

theorem not_cascaded_of_lineActive {k : Chan} {pol : Pol} {s : State} {n : Chan} (h : lineActive k pol s n = true) :
    s.cascaded n = false := by
  simp only [lineActive, Bool.and_eq_true, decide_eq_true_eq] at h
  rw [State.cascaded, h.1]
  exact decide_eq_false (lineCode_not_tap k).2

/-- The cascade as a code of the SRC field (R17). -/
theorem cascaded_iff {s : State} {n : Chan} : s.cascaded n = true ↔ (s.modeVal n).extractLsb' 8 4 = 0b0000#4 := by
  rw [State.cascaded, decide_eq_true_iff, modeSrc_def]
  rfl

/-- The gate snapshot lets a count pass exactly where the gate is known to be open (R129). -/
theorem gates_eq_true {s : State} {n : Chan} : s.gates.get n = true ↔ s.gateOK n = some true := by
  have h : s.gates.get n = (s.gateOK n).getD false := by cases n <;> rfl
  rw [h]
  cases s.gateOK n <;> simp

/-- `ModeOK` includes `OCOK` (R22). -/
theorem ocOK_of_modeOK {s : State} {n : Chan} (h : s.modeOK n = true) : s.ocOK n = true := by
  simp_all [State.modeOK, State.ocOK, modeLegal, ocOK, State.modeVal]

/-- The level of a line that is specified. -/
theorem outLevel_of_ocOK {mode : Reg16} {latch : Latch} (h : ocOK mode = true) :
    outLevel mode latch =
      if modeOC mode.val = enc.ocToggle then (if latch.known then some latch.level else none) else some false := by
  simp [outLevel, h]

/-- Two states with the same modes and the same latch n have the same output line n (R27). -/
theorem outLine_congr {s t : State} {n : Chan} (hm : t.mode = s.mode) (hl : t.tgl.get n = s.tgl.get n) :
    t.outLine n = s.outLine n := by
  rw [State.outLine, State.outLine, hm, hl]

/-- Whether a line is specified depends on the mode and on whether the latch is, not on its level (R27). -/
theorem outLine_isSome_congr {s t : State} {n : Chan} (hm : t.mode = s.mode)
    (hl : (t.tgl.get n).known = (s.tgl.get n).known) : (t.outLine n).isSome = (s.outLine n).isSome := by
  rw [State.outLine, State.outLine, hm, outLevel, outLevel, hl]
  split
  · rfl
  · split
    · split <;> rfl
    · rfl

/-- Whether a gate can be evaluated depends on the modes, the wiring, the gate inputs and which latches are specified (R129). -/
theorem gateOK_isSome_congr {s t : State} (n : Chan) (hp : t.plat = s.plat) (hm : t.mode = s.mode)
    (hg : t.gateIn = s.gateIn) (hl : ∀ j, (t.tgl.get j).known = (s.tgl.get j).known) :
    (t.gateOK n).isSome = (s.gateOK n).isSome := by
  have hline : (t.gateLine n).isSome = (s.gateLine n).isSome := by
    rw [State.gateLine, State.gateLine, hp, hg]
    split
    · exact outLine_isSome_congr hm (hl _)
    · rfl
  rw [State.gateOK, State.gateOK, State.modeVal, State.modeVal, hm, gatePass, gatePass]
  split
  · rfl
  · simpa using hline

/-- Status bits 1 to 5 show the output lines 1 to 5, the other bits none (R24). -/
theorem statusChan_eq_some {i : Nat} {n : Chan} : statusChan i = some n ↔ i = n.num := by
  refine ⟨fun h => ?_, fun h => by subst h; cases n <;> rfl⟩
  have h' : enc.posStatus.get n = i := by simpa using List.find?_some h
  rw [← h']
  cases n <;> rfl

/-- The bit that shows output line n: its level, or the free value's bit where that is unspecified (R24). -/
theorem statusBit_num (s : State) (free : Word) (n : Chan) :
    s.statusBit free n.num = (s.outLine n).getD (free.getLsbD n.num) := by
  rw [State.statusBit, statusChan_eq_some.mpr rfl]
  rfl

/-- Bit n of the status byte (R24). -/
theorem statusByte_bit (s : State) (free : Word) (n : Chan) :
    (s.statusByte free).getLsbD n.num = (s.outLine n).getD (free.getLsbD n.num) := by
  rw [← statusBit_num]
  cases n <;> exact BitVec.getLsbD_ofBoolListLE

end Sys2Proof.Machine
end

