-- ==== Sys2Proof/Laws/Exec.lean ====
section
/-! SUPPORT. Everything a host operation and a step can do when they are not refused, said once; later proofs take these apart and
do not unfold exec or step. -/

namespace Sys2Proof.Machine

/-! ### One arm for a family of rows -/

theorem exec_select (t : Target) (s : State) : exec (Instr.select t) s = select t s := by
  cases t with
  | mm => rfl
  | mode n => cases n <;> rfl
  | load n => cases n <;> rfl
  | hold n => cases n <;> rfl

theorem exec_setTc (n : Chan) (s : State) : exec (Instr.setTc n) s = forceOutput n true s := by cases n <;> rfl

theorem exec_clearTc (n : Chan) (s : State) : exec (Instr.clearTc n) s = forceOutput n false s := by cases n <;> rfl

/-- Every instruction is a SELECT, a SET_TC, a CLEAR_TC, or one of the rows that stand alone. -/
theorem instr_cases (i : Instr) :
    (∃ t, i = Instr.select t) ∨ (∃ n, i = Instr.setTc n) ∨ (∃ n, i = Instr.clearTc n) ∨ (∃ m, i = .arm m) ∨
      (∃ m, i = .load m) ∨ (∃ m, i = .save m) ∨ (∃ m, i = .disarm m) ∨ i = .reset ∨ (∃ v, i = .dw16 v) ∨ i = .dr16 ∨
      (∃ b, i = .dw8 b) ∨ i = .dr8 ∨ i = .stat := by
  cases i
  case selectMode1 => exact .inl ⟨.mode .c1, rfl⟩
  case selectMode2 => exact .inl ⟨.mode .c2, rfl⟩
  case selectMode3 => exact .inl ⟨.mode .c3, rfl⟩
  case selectMode4 => exact .inl ⟨.mode .c4, rfl⟩
  case selectMode5 => exact .inl ⟨.mode .c5, rfl⟩
  case selectLoad1 => exact .inl ⟨.load .c1, rfl⟩
  case selectLoad2 => exact .inl ⟨.load .c2, rfl⟩
  case selectLoad3 => exact .inl ⟨.load .c3, rfl⟩
  case selectLoad4 => exact .inl ⟨.load .c4, rfl⟩
  case selectLoad5 => exact .inl ⟨.load .c5, rfl⟩
  case selectHold1 => exact .inl ⟨.hold .c1, rfl⟩
  case selectHold2 => exact .inl ⟨.hold .c2, rfl⟩
  case selectHold3 => exact .inl ⟨.hold .c3, rfl⟩
  case selectHold4 => exact .inl ⟨.hold .c4, rfl⟩
  case selectHold5 => exact .inl ⟨.hold .c5, rfl⟩
  case selectMM => exact .inl ⟨.mm, rfl⟩
  case setTc1 => exact .inr (.inl ⟨.c1, rfl⟩)
  case setTc2 => exact .inr (.inl ⟨.c2, rfl⟩)
  case setTc3 => exact .inr (.inl ⟨.c3, rfl⟩)
  case setTc4 => exact .inr (.inl ⟨.c4, rfl⟩)
  case setTc5 => exact .inr (.inl ⟨.c5, rfl⟩)
  case clearTc1 => exact .inr (.inr (.inl ⟨.c1, rfl⟩))
  case clearTc2 => exact .inr (.inr (.inl ⟨.c2, rfl⟩))
  case clearTc3 => exact .inr (.inr (.inl ⟨.c3, rfl⟩))
  case clearTc4 => exact .inr (.inr (.inl ⟨.c4, rfl⟩))
  case clearTc5 => exact .inr (.inr (.inl ⟨.c5, rfl⟩))
  all_goals simp

/-! ### What a host operation can do -/

/-- The next states of the host operations, one case for each kind of effect, with the conditions under which it happens. -/
inductive HostEffect (s : State) : Instr → State → Prop where
  | select (t : Target) (idle : s.xfer = .idle) (boot : s.ready = true ∨ (t = .mm ∧ s.initLd = allChannels)) :
      HostEffect s (Instr.select t) { s with dp := some t }
  | arm (m : Mask) (idle : s.xfer = .idle) (ready : s.ready = true) :
      HostEffect s (.arm m) { s with armed := setNamed s.armed m fun _ => true }
  | disarm (m : Mask) (idle : s.xfer = .idle) (ready : s.ready = true) :
      HostEffect s (.disarm m) { s with armed := setNamed s.armed m fun _ => false }
  | save (m : Mask) (idle : s.xfer = .idle) (ready : s.ready = true) :
      HostEffect s (.save m) { s with hold := setNamed s.hold m fun n => s.cnt.get n }
  | dummyLoad (m : Mask) (idle : s.xfer = .idle) (unready : s.ready = false) :
      HostEffect s (.load m) (dummyLoad m s)
  | load (m : Mask) (u : State) (idle : s.xfer = .idle) (ready : s.ready = true)
      (done : transferAll m.chans s = .ok u) : HostEffect s (.load m) u
  | setTc (n : Chan) (idle : s.xfer = .idle) (ready : s.ready = true) :
      HostEffect s (Instr.setTc n) (s.setTgl n (.is true))
  | clearTc (n : Chan) (idle : s.xfer = .idle) (ready : s.ready = true) :
      HostEffect s (Instr.clearTc n) (s.setTgl n (.is false))
  | reset : HostEffect s .reset (resetState s)
  | write16 (v : Word) (t : Target) (wide : s.plat.bus16 = true) (dp : s.dp = some t)
      (boot : s.ready = true ∨ t = .mm) (phase : s.xfer ≠ .rdHi) (writable : Target.isHold t = false) :
      HostEffect s (.dw16 v) (complete true t (s.setReg t (.known v)))
  | read16 (t : Target) (wide : s.plat.bus16 = true) (dp : s.dp = some t) (ready : s.ready = true)
      (phase : s.xfer ≠ .wrHi) :
      HostEffect s .dr16 (complete false t (s.giveBack (.data16 ((s.reg t).read (Config.freeWord s.draws)))))
  | writeLow (b : Byte) (t : Target) (wide : s.plat.bus16 = false) (dp : s.dp = some t)
      (boot : s.ready = true ∨ t = .mm) (phase : s.xfer = .idle) (writable : Target.isHold t = false) :
      HostEffect s (.dw8 b) ((s.setReg t ((s.reg t).writeLow b)).setXfer .wrHi)
  | writeHigh (b : Byte) (t : Target) (wide : s.plat.bus16 = false) (dp : s.dp = some t)
      (boot : s.ready = true ∨ t = .mm) (phase : s.xfer = .wrHi) (writable : Target.isHold t = false) :
      HostEffect s (.dw8 b) (complete true t (s.setReg t ((s.reg t).writeHigh b)))
  | readLow (t : Target) (wide : s.plat.bus16 = false) (dp : s.dp = some t) (ready : s.ready = true)
      (phase : s.xfer = .idle) :
      HostEffect s .dr8 ((s.giveBack (.data8 ((s.reg t).readLow (Config.freeWord s.draws)))).setXfer .rdHi)
  | readHigh (t : Target) (wide : s.plat.bus16 = false) (dp : s.dp = some t) (ready : s.ready = true)
      (phase : s.xfer = .rdHi) :
      HostEffect s .dr8 (complete false t (s.giveBack (.data8 ((s.reg t).readHigh (Config.freeWord s.draws)))))
  | stat (idle : s.xfer = .idle) (ready : s.ready = true) :
      HostEffect s .stat (s.giveBack (.status (s.statusByte (Config.freeWord s.draws))))

/-- SELECT between transfers and, but for SELECT MM, after boot (R80). -/
theorem select_eq_next {t : Target} {s u : State} :
    select t s = .next u ↔
      s.xfer = .idle ∧ (s.ready = true ∨ (t = .mm ∧ s.initLd = allChannels)) ∧ u = { s with dp := some t } := by
  unfold select
  rw [outcome_eq_next]
  by_cases hx : s.xfer = .idle
  · by_cases hb : s.ready = true ∨ (t = .mm ∧ s.initLd = allChannels)
    · have hn : ¬(s.ready = false ∧ ¬(t = .mm ∧ s.initLd = allChannels)) := by
        rintro ⟨h1, h2⟩
        rcases hb with h | h
        · simp [h] at h1
        · exact h2 h
      rw [if_neg (by simp [hx]), if_neg hn, Except.ok.injEq, ← hx]
      exact ⟨fun h => ⟨rfl, hb, h.symm⟩, fun h => h.2.2.symm⟩
    · have hn : s.ready = false ∧ ¬(t = .mm ∧ s.initLd = allChannels) := by
        constructor
        · cases hr : s.ready
          · rfl
          · exact absurd (.inl hr) hb
        · exact fun h => hb (.inr h)
      rw [if_neg (by simp [hx]), if_pos hn]
      simp [hb]
  · rw [if_pos hx]
    simp [hx]

/-- SET_TC and CLEAR_TC between transfers and after boot (R104, R105). -/
theorem forceOutput_eq_next {n : Chan} {v : Bool} {s u : State} :
    forceOutput n v s = .next u ↔ s.xfer = .idle ∧ s.ready = true ∧ u = s.setTgl n (.is v) := by
  rw [forceOutput, outcome_eq_next, cmdPre_eq_ok, Except.ok.injEq]
  exact ⟨fun h => ⟨h.1, h.2.1, h.2.2.symm⟩, fun h => ⟨h.1, h.2.1, h.2.2.symm⟩⟩

/-- A host operation that answers a next state has one of the listed effects. -/
theorem exec_effect {i : Instr} {s u : State} (h : exec i s = .next u) : HostEffect s i u := by
  rcases instr_cases i with ⟨t, rfl⟩ | ⟨n, rfl⟩ | ⟨n, rfl⟩ | ⟨m, rfl⟩ | ⟨m, rfl⟩ | ⟨m, rfl⟩ | ⟨m, rfl⟩ | rfl | ⟨v, rfl⟩ |
    rfl | ⟨b, rfl⟩ | rfl | rfl
  · rw [exec_select] at h
    obtain ⟨hx, hb, rfl⟩ := select_eq_next.mp h
    exact .select t hx hb
  · rw [exec_setTc] at h
    obtain ⟨hx, hr, rfl⟩ := forceOutput_eq_next.mp h
    exact .setTc n hx hr
  · rw [exec_clearTc] at h
    obtain ⟨hx, hr, rfl⟩ := forceOutput_eq_next.mp h
    exact .clearTc n hx hr
  · obtain ⟨hx, hr, hu⟩ := cmdPre_eq_ok.mp (outcome_eq_next.mp h)
    cases hu
    exact .arm m hx hr
  · obtain ⟨hx, hu⟩ := loadPre_eq_ok.mp (outcome_eq_next.mp h)
    split at hu
    · cases hu; exact .dummyLoad m hx ‹_›
    · rename_i hr
      exact .load m u hx (by simpa using hr) hu
  · obtain ⟨hx, hr, hu⟩ := cmdPre_eq_ok.mp (outcome_eq_next.mp h)
    cases hu
    exact .save m hx hr
  · obtain ⟨hx, hr, hu⟩ := cmdPre_eq_ok.mp (outcome_eq_next.mp h)
    cases hu
    exact .disarm m hx hr
  · cases h; exact .reset
  · obtain ⟨hw, t, hd, hb, -, hp, hh, hu⟩ := dataPre_eq_ok.mp (outcome_eq_next.mp h)
    cases hu
    exact .write16 v t hw.symm hd (by simpa using hb) (by simpa using hp) (by simpa using hh)
  · obtain ⟨hw, t, hd, hb, hp, -, -, hu⟩ := dataPre_eq_ok.mp (outcome_eq_next.mp h)
    cases hu
    exact .read16 t hw.symm hd (by simpa using hb) (by simpa using hp)
  · obtain ⟨hw, t, hd, hb, -, hp, hh, hu⟩ := dataPre_eq_ok.mp (outcome_eq_next.mp h)
    have hp : s.xfer ≠ .rdHi := by simpa using hp
    split at hu
    · cases hu
      exact .writeLow b t hw.symm hd (by simpa using hb) ‹_› (by simpa using hh)
    · cases hu
      refine .writeHigh b t hw.symm hd (by simpa using hb) ?_ (by simpa using hh)
      cases hx : s.xfer <;> simp_all
  · obtain ⟨hw, t, hd, hb, hp, -, -, hu⟩ := dataPre_eq_ok.mp (outcome_eq_next.mp h)
    have hp : s.xfer ≠ .wrHi := by simpa using hp
    split at hu
    · cases hu
      exact .readLow t hw.symm hd (by simpa using hb) ‹_›
    · cases hu
      refine .readHigh t hw.symm hd (by simpa using hb) ?_
      cases hx : s.xfer <;> simp_all
  · simp only [exec, execStat, outcome_eq_next] at h
    split at h
    · cases h
    · split at h
      · cases h
      · cases h
        exact .stat (by simpa using ‹¬s.xfer ≠ _›) (by simpa using ‹¬s.ready = false›)

/-! ### What a step can do -/

/-- A step that answers a next state ran the instruction its next access decodes to, or made one of the environment steps. -/
theorem step_cases {s u : State} (h : step s = .next u) :
    (∃ a rest i, s.schedule = .host a :: rest ∧ decodeAccess s.plat.base a = .op i ∧
      exec i { s with schedule := rest } = .next u) ∨
    (∃ rest, ((s.schedule = [] ∧ rest = []) ∨ s.schedule = .clkTick :: rest) ∧
      clkTick { s with schedule := rest } = .ok u) ∨
    (∃ k pol rest, s.schedule = .srcEdge k pol :: rest ∧ srcEdge k pol { s with schedule := rest } = .ok u) ∨
    (∃ k v rest, s.schedule = .gateSet k v :: rest ∧ gateSet k v { s with schedule := rest } = .ok u) := by
  unfold step at h
  split at h
  · rename_i hs
    refine .inr (.inl ⟨[], .inl ⟨hs, rfl⟩, ?_⟩)
    rw [← hs]
    exact outcome_eq_next.mp h
  · rename_i a rest hs
    split at h
    · exact .inl ⟨a, rest, _, hs, ‹_›, h⟩
    · rename_i r _
      cases r <;> cases h
  · rename_i rest hs
    exact .inr (.inl ⟨rest, .inr hs, outcome_eq_next.mp h⟩)
  · rename_i k pol rest hs
    exact .inr (.inr (.inl ⟨k, pol, rest, hs, outcome_eq_next.mp h⟩))
  · rename_i k v rest hs
    exact .inr (.inr (.inr ⟨k, v, rest, hs, outcome_eq_next.mp h⟩))

/-- A list of transfers writes specified values into the counters of its channels and nothing else. -/
theorem transferAll_frame : ∀ (l : List Chan) {s t : State}, transferAll l s = .ok t →
    t = { s with cnt := t.cnt } ∧ ∀ n, t.cnt.get n = s.cnt.get n ∨ (t.cnt.get n).specified = true
  | [], s, t, h => by cases h; exact ⟨rfl, fun n => .inl rfl⟩
  | n :: rest, s, t, h => by
    unfold transferAll at h
    cases hu : transfer n s with
    | error r => rw [hu] at h; cases h
    | ok u =>
      rw [hu] at h
      obtain ⟨e, hc⟩ := transferAll_frame rest h
      obtain ⟨-, -, -, rfl⟩ := transfer_eq_ok.mp hu
      refine ⟨e, fun m => ?_⟩
      rcases hc m with hm | hm
      · rw [hm]; exact (setCnt_frame s n _).cnt m
      · exact .inr hm

end Sys2Proof.Machine
end

