-- ==== Sys2Proof/Laws/PerInstr.lean ====
section
/-! SUPPORT. Laws stated instruction by instruction: the encoder agrees with the rows of spec/opcode_table.json. -/

namespace Sys2Proof.Laws.OpcodeTable

/-- A row of the opcode table: a command byte with its mask and match, or one of the operations that port, direction and width
tell apart (R41, R65). -/
inductive Row where
  | command (mask bits : Byte)
  | dataWrite16
  | dataRead16
  | dataWrite8
  | dataRead8
  | statusRead

/-- The row of each instruction, transcribed from the table's mask and match. -/
def row : Instr → Row
  | .selectMode1 => .command 0xFF#8 0x01#8
  | .selectMode2 => .command 0xFF#8 0x02#8
  | .selectMode3 => .command 0xFF#8 0x03#8
  | .selectMode4 => .command 0xFF#8 0x04#8
  | .selectMode5 => .command 0xFF#8 0x05#8
  | .selectLoad1 => .command 0xFF#8 0x09#8
  | .selectLoad2 => .command 0xFF#8 0x0A#8
  | .selectLoad3 => .command 0xFF#8 0x0B#8
  | .selectLoad4 => .command 0xFF#8 0x0C#8
  | .selectLoad5 => .command 0xFF#8 0x0D#8
  | .selectHold1 => .command 0xFF#8 0x11#8
  | .selectHold2 => .command 0xFF#8 0x12#8
  | .selectHold3 => .command 0xFF#8 0x13#8
  | .selectHold4 => .command 0xFF#8 0x14#8
  | .selectHold5 => .command 0xFF#8 0x15#8
  | .selectMM => .command 0xFF#8 0x17#8
  | .arm _ => .command 0xE0#8 0x20#8
  | .load _ => .command 0xE0#8 0x40#8
  | .save _ => .command 0xE0#8 0xA0#8
  | .disarm _ => .command 0xE0#8 0xC0#8
  | .clearTc1 => .command 0xFF#8 0xE1#8
  | .clearTc2 => .command 0xFF#8 0xE2#8
  | .clearTc3 => .command 0xFF#8 0xE3#8
  | .clearTc4 => .command 0xFF#8 0xE4#8
  | .clearTc5 => .command 0xFF#8 0xE5#8
  | .setTc1 => .command 0xFF#8 0xE9#8
  | .setTc2 => .command 0xFF#8 0xEA#8
  | .setTc3 => .command 0xFF#8 0xEB#8
  | .setTc4 => .command 0xFF#8 0xEC#8
  | .setTc5 => .command 0xFF#8 0xED#8
  | .reset => .command 0xFF#8 0xFF#8
  | .dw16 _ => .dataWrite16
  | .dr16 => .dataRead16
  | .dw8 _ => .dataWrite8
  | .dr8 => .dataRead8
  | .stat => .statusRead

/-- The access is one the row describes, for a block at port `base`. -/
def Row.describes (base : Nat) : Row → Access → Prop
  | .command mask m, .write8 p b => p = base + 1 ∧ b &&& mask = m
  | .dataWrite16, .write16 p _ => p = base
  | .dataRead16, .read16 p => p = base
  | .dataWrite8, .write8 p _ => p = base
  | .dataRead8, .read8 p => p = base
  | .statusRead, .read8 p => p = base + 1
  | _, _ => False

/-- The encoder gives the instruction an access that its row of the table describes. -/
def Statement (i : Instr) : Prop := ∀ base, (row i).describes base (encode base i)

theorem selectMode1 : Statement .selectMode1 := fun _ => ⟨rfl, rfl⟩
theorem selectMode2 : Statement .selectMode2 := fun _ => ⟨rfl, rfl⟩
theorem selectMode3 : Statement .selectMode3 := fun _ => ⟨rfl, rfl⟩
theorem selectMode4 : Statement .selectMode4 := fun _ => ⟨rfl, rfl⟩
theorem selectMode5 : Statement .selectMode5 := fun _ => ⟨rfl, rfl⟩
theorem selectLoad1 : Statement .selectLoad1 := fun _ => ⟨rfl, rfl⟩
theorem selectLoad2 : Statement .selectLoad2 := fun _ => ⟨rfl, rfl⟩
theorem selectLoad3 : Statement .selectLoad3 := fun _ => ⟨rfl, rfl⟩
theorem selectLoad4 : Statement .selectLoad4 := fun _ => ⟨rfl, rfl⟩
theorem selectLoad5 : Statement .selectLoad5 := fun _ => ⟨rfl, rfl⟩
theorem selectHold1 : Statement .selectHold1 := fun _ => ⟨rfl, rfl⟩
theorem selectHold2 : Statement .selectHold2 := fun _ => ⟨rfl, rfl⟩
theorem selectHold3 : Statement .selectHold3 := fun _ => ⟨rfl, rfl⟩
theorem selectHold4 : Statement .selectHold4 := fun _ => ⟨rfl, rfl⟩
theorem selectHold5 : Statement .selectHold5 := fun _ => ⟨rfl, rfl⟩
theorem selectMM : Statement .selectMM := fun _ => ⟨rfl, rfl⟩
theorem arm (m : Mask) : Statement (.arm m) := fun _ => ⟨rfl, by revert m; decide⟩
theorem load (m : Mask) : Statement (.load m) := fun _ => ⟨rfl, by revert m; decide⟩
theorem save (m : Mask) : Statement (.save m) := fun _ => ⟨rfl, by revert m; decide⟩
theorem disarm (m : Mask) : Statement (.disarm m) := fun _ => ⟨rfl, by revert m; decide⟩
theorem clearTc1 : Statement .clearTc1 := fun _ => ⟨rfl, rfl⟩
theorem clearTc2 : Statement .clearTc2 := fun _ => ⟨rfl, rfl⟩
theorem clearTc3 : Statement .clearTc3 := fun _ => ⟨rfl, rfl⟩
theorem clearTc4 : Statement .clearTc4 := fun _ => ⟨rfl, rfl⟩
theorem clearTc5 : Statement .clearTc5 := fun _ => ⟨rfl, rfl⟩
theorem setTc1 : Statement .setTc1 := fun _ => ⟨rfl, rfl⟩
theorem setTc2 : Statement .setTc2 := fun _ => ⟨rfl, rfl⟩
theorem setTc3 : Statement .setTc3 := fun _ => ⟨rfl, rfl⟩
theorem setTc4 : Statement .setTc4 := fun _ => ⟨rfl, rfl⟩
theorem setTc5 : Statement .setTc5 := fun _ => ⟨rfl, rfl⟩
theorem reset : Statement .reset := fun _ => ⟨rfl, rfl⟩
theorem dw16 (v : Word) : Statement (.dw16 v) := fun _ => rfl
theorem dr16 : Statement .dr16 := fun _ => rfl
theorem dw8 (b : Byte) : Statement (.dw8 b) := fun _ => rfl
theorem dr8 : Statement .dr8 := fun _ => rfl
theorem stat : Statement .stat := fun _ => rfl

end Sys2Proof.Laws.OpcodeTable
end

