-- ==== Sys2Proof/Machine/Programs.lean ====
section
/-! DEFINITION. The drivers' register sequences as lists of instructions, in the orders 70_reset_and_hazards.md asks software to keep
(R194 to R203) and 95_test_vectors.md writes out (programs P1 to P4). The drivers themselves are software, outside the block
(00_scope.md R3 d): these lists hold what reaches the chip. -/

namespace Sys2Proof.Machine

/-- MAX_MOVE (R4, R198). -/
def maxMove : Nat := 65534

/-- The value loaded into the high channel for a move of exactly `p` pulses (R198): p - 1. None for 0 (no register is touched,
R197), for 1 (the single-step procedure, R203), and beyond MAX_MOVE (rejected, R198). -/
def moveLoad (p : Nat) : Option Word := if 2 ≤ p ∧ p ≤ maxMove then some (BitVec.ofNat 16 (p - 1)) else none

/-- Programming one channel: mode, then load, then LOAD, then ARM (R195). -/
def programAndArm (bus16 : Bool) (n : Chan) (m v : Word) : List Instr :=
  setCounterMode bus16 n m ++ loadCounter bus16 n v ++ armCounter n

/-- Motor Open (P2 steps 1 to 5): both channels programmed, the high one preset to the rollover sentinel (R199), its output low. -/
def motorOpen (bus16 : Bool) (lo hi : Chan) (mLo vLo mHi : Word) : List Instr :=
  setCounterMode bus16 lo mLo ++ loadCounter bus16 lo vLo ++ setCounterMode bus16 hi mHi ++
    loadCounter bus16 hi 0xFFFF#16 ++ clearTcPrimitive hi

/-- Motor Move with the value `moveLoad` gives (P2 steps 6 to 12): disarm (R196), read the position, load, rewrite the load
register to 0 (R199), open the low channel's gate, arm the high channel before the low one (R200). -/
def motorMove (bus16 : Bool) (lo hi : Chan) (v : Word) : List Instr :=
  disarmCounter lo ++ disarmCounter hi ++ readCounter bus16 hi ++ loadCounter bus16 hi v ++
    setLoadRegister bus16 hi 0#16 ++ setTcPrimitive hi ++ armCounter hi ++ armCounter lo

/-- The single step up to its wait (R203, P4 steps 1 to 5): the mode and load registers are read (`m` is the mode read), gating
and repetition are switched off, 4 ticks are loaded, the channel is armed. -/
def singleStepStart (bus16 : Bool) (lo : Chan) (m : Word) : List Instr :=
  getCounterMode bus16 lo ++ getLoadRegister bus16 lo ++ programAndArm bus16 lo (singleStepMode m) singleStepTicks

/-- The restore after the wait (R203, R204, P4 steps 7 and 8). -/
def singleStepRestore (bus16 : Bool) (lo : Chan) (m l : Word) : List Instr :=
  setCounterMode bus16 lo m ++ setLoadRegister bus16 lo l

/-- Re-arming a scaler chain, lowest-order channel first in `chain` (R201, P3 steps 3 to 7): disarm forward, zero and reload
forward, force the last output low, arm in reverse. -/
def scalerClear (bus16 : Bool) (chain : List Chan) : List Instr :=
  chain.flatMap disarmCounter ++ chain.flatMap (fun n => loadCounter bus16 n 0#16) ++
    (chain.getLast?.toList).flatMap clearTcPrimitive ++ chain.reverse.flatMap armCounter

/-- Reading a stopped scaler chain (R47, P3 steps 11 to 13): disarm forward, then read each counter, most significant first. -/
def scalerRead (bus16 : Bool) (chain : List Chan) : List Instr :=
  chain.flatMap disarmCounter ++ chain.reverse.flatMap (readCounter bus16)

/-- Timer Start with the tap and count `selectAccuracy` gives (P1 steps 3 to 8); `m` is the mode read. The output goes high after
ARM (R137, R196). -/
def timerStart (bus16 : Bool) (n : Chan) (m : Word) (k : Tap) (ticks : Word) : List Instr :=
  getCounterMode bus16 n ++ setCounterMode bus16 n (mergeDivider m k) ++ loadCounter bus16 n ticks ++ armCounter n ++
    setTcPrimitive n

/-- Timer Stop (P1 steps 14 to 17). -/
def timerStop (bus16 : Bool) (n : Chan) : List Instr :=
  disarmCounter n ++ clearTcPrimitive n ++ readCounter bus16 n ++ getCounterMode bus16 n

/-- A driver's Close or Abort (R194): disarm all owned counters in order, then force their outputs low. Closing the chip record
itself issues no operation. -/
def driverClose (owned : List Chan) : List Instr := owned.flatMap disarmCounter ++ owned.flatMap clearTcPrimitive

end Sys2Proof.Machine
end

