-- ==== Sys2Proof/Tests/Slice0.lean ====
section
/-! SUPPORT. Tests of the model and witnesses for its statements. Expected values come from the spec: the opcode map of
30_encoding.md, the vectors V30, V40, V41, V42, V43 and V70 and the programs of 95_test_vectors.md. -/

namespace Sys2Proof.Tests

open Sys2Proof.Machine Sys2Proof.Claims

/-! ### States -/

/-- A file with one value for channel n and another for the rest. -/
def only {α : Type} (n : Chan) (v w : α) : PerChan α := PerChan.build fun m => if m = n then v else w

/-- The state the vectors start from: boot done, every gate line low. -/
def booted : State :=
  { State.reset with initLd := 0x1F#5, initMm := true, mm := .known 0#16, gateIn := sameLatch (.is false) }

/-- The same on an 8-bit bus. -/
def booted8 : State := { booted with plat := { resetPlatform with bus16 := false } }

/-- The same with load[3] = 0x1234 and Load(3) selected, on the bus of the given width. -/
def selected (bus16 : Bool) : State :=
  { (if bus16 then booted else booted8) with dp := some (.load .c3), load := only .c3 (.known 0x1234#16) (.unknown 0#16) }

/-- Between the two bytes of a write to load[3]. -/
def halfWritten : State := { selected false with xfer := .wrHi }

/-- Between the two bytes of a read of load[3]. -/
def halfRead : State := { selected false with xfer := .rdHi }

/-- Channel n alone set up and armed. -/
def running (n : Chan) (mode cnt load : Word) (tgl : Bool) : State :=
  { booted with
    mode := only n (.known mode) (.known 0x0B00#16)
    cnt := only n (.known cnt) (.unknown 0#16)
    load := only n (.known load) (.unknown 0#16)
    tgl := only n (.is tgl) (.unknown false)
    armed := only n true false }

/-- The timer of program P1: channel 3 gated by its own output. -/
def timer (cnt : Word) (tgl : Bool) : State :=
  { running .c3 0x8B22#16 cnt 5#16 tgl with
    plat := { resetPlatform with gateWire := only .c3 (.out .c3) .ext }
    psc := 0x1234#16 }

/-- The chain of program P5 and vector V42-15 just before the event that ripples. -/
def chain : State :=
  { booted with
    mode := { c1 := .known 0x0129#16, c2 := .known 0x0029#16, c3 := .known 0x000A#16, c4 := .known 0#16, c5 := .known 0#16 }
    cnt := { c1 := .known 0xFFFF#16, c2 := .known 0xFFFF#16, c3 := .known 7#16, c4 := .unknown 0#16, c5 := .unknown 0#16 }
    load := sameReg (.known 0#16)
    tgl := sameLatch (.is false)
    armed := { c1 := true, c2 := true, c3 := true, c4 := false, c5 := false } }

/-- What is seen of the next state, if there is one. -/
def see {α : Type} (o : Host.Outcome State Fault Refusal) (f : State → α) : Option α :=
  match o with
  | .next s => some (f s)
  | .fault _ => none
  | .refused _ => none

/-- Why there is no next state. -/
def why (o : Host.Outcome State Fault Refusal) : Option Refusal :=
  match o with
  | .next _ => none
  | .fault f => nomatch f
  | .refused r => some r

/-- What is seen after an environment step. -/
def seeEnv {α : Type} (r : Result) (f : State → α) : Option α :=
  match r with
  | .ok s => some (f s)
  | .error _ => none

/-- Why an environment step was refused. -/
def whyEnv (r : Result) : Option Refusal :=
  match r with
  | .ok _ => none
  | .error e => some e

/-! ### WellFormed -/

theorem test_wellFormed_dw16_needs_wide : Instr.wellFormed false (.dw16 0#16) = false := rfl
theorem test_wellFormed_dr16_needs_wide : Instr.wellFormed false .dr16 = false := rfl
theorem test_wellFormed_dw8_needs_narrow : Instr.wellFormed true (.dw8 0#8) = false := rfl
theorem test_wellFormed_dr8_needs_narrow : Instr.wellFormed true .dr8 = false := rfl
theorem test_wellFormed_command_on_both : (Instr.wellFormed true .reset && Instr.wellFormed false .reset) = true := rfl
theorem test_wellFormed_gate_needs_external :
    Input.wellFormed (timer 0#16 true).plat (.gateSet .c3 true) = false ∧
    Input.wellFormed (timer 0#16 true).plat (.gateSet .c1 true) = true := by decide

/-! ### Decoding: every row of the opcode table, its byte written out from R61 to R64 -/

/-- Format CS: 000 E G, E = 00 mode, 01 load, 10 hold, G = the channel; 0x17 is MM. -/
theorem test_decode_select :
    decodeCommand 0b00000001#8 = some .selectMode1 ∧ decodeCommand 0b00000010#8 = some .selectMode2 ∧
    decodeCommand 0b00000011#8 = some .selectMode3 ∧ decodeCommand 0b00000100#8 = some .selectMode4 ∧
    decodeCommand 0b00000101#8 = some .selectMode5 ∧ decodeCommand 0b00001001#8 = some .selectLoad1 ∧
    decodeCommand 0b00001010#8 = some .selectLoad2 ∧ decodeCommand 0b00001011#8 = some .selectLoad3 ∧
    decodeCommand 0b00001100#8 = some .selectLoad4 ∧ decodeCommand 0b00001101#8 = some .selectLoad5 ∧
    decodeCommand 0b00010001#8 = some .selectHold1 ∧ decodeCommand 0b00010010#8 = some .selectHold2 ∧
    decodeCommand 0b00010011#8 = some .selectHold3 ∧ decodeCommand 0b00010100#8 = some .selectHold4 ∧
    decodeCommand 0b00010101#8 = some .selectHold5 ∧ decodeCommand 0b00010111#8 = some .selectMM := by decide

/-- Format CM: OP3 S, OP3 = 001 ARM, 010 LOAD, 101 SAVE, 110 DISARM; V30-12 to V30-19. -/
theorem test_decode_mask :
    decodeCommand 0x20#8 = some (.arm 0#5) ∧ decodeCommand 0x24#8 = some (.arm 0b00100#5) ∧
    decodeCommand 0x3F#8 = some (.arm 0b11111#5) ∧ decodeCommand 0x44#8 = some (.load 0b00100#5) ∧
    decodeCommand 0x5F#8 = some (.load 0b11111#5) ∧ decodeCommand 0xA2#8 = some (.save 0b00010#5) ∧
    decodeCommand 0xC5#8 = some (.disarm 0b00101#5) := by decide

/-- Format CN: OP5 N, OP5 = 11100 CLEAR_TC, 11101 SET_TC. -/
theorem test_decode_output :
    decodeCommand 0b11100001#8 = some .clearTc1 ∧ decodeCommand 0b11100010#8 = some .clearTc2 ∧
    decodeCommand 0b11100011#8 = some .clearTc3 ∧ decodeCommand 0b11100100#8 = some .clearTc4 ∧
    decodeCommand 0b11100101#8 = some .clearTc5 ∧ decodeCommand 0b11101001#8 = some .setTc1 ∧
    decodeCommand 0b11101010#8 = some .setTc2 ∧ decodeCommand 0b11101011#8 = some .setTc3 ∧
    decodeCommand 0b11101100#8 = some .setTc4 ∧ decodeCommand 0b11101101#8 = some .setTc5 := by decide

/-- Format C0, and the reserved bytes of V30. -/
theorem test_decode_reset_and_reserved :
    decodeCommand 0xFF#8 = some .reset ∧ decodeCommand 0x00#8 = none ∧ decodeCommand 0x06#8 = none ∧
    decodeCommand 0x08#8 = none ∧ decodeCommand 0x16#8 = none ∧ decodeCommand 0x19#8 = none ∧
    decodeCommand 0x1F#8 = none ∧ decodeCommand 0x60#8 = none ∧ decodeCommand 0x9F#8 = none ∧
    decodeCommand 0xE0#8 = none ∧ decodeCommand 0xE8#8 = none ∧ decodeCommand 0xEE#8 = none ∧
    decodeCommand 0xFE#8 = none := by decide

/-- Formats DW, DR, ST: port, direction and width tell them apart (R41, R65). -/
theorem test_decode_ports :
    decodeAccess 0x300 (.write16 0x300 0x8B22#16) = .op (.dw16 0x8B22#16) ∧
    decodeAccess 0x300 (.read16 0x300) = .op .dr16 ∧ decodeAccess 0x300 (.write8 0x300 0x34#8) = .op (.dw8 0x34#8) ∧
    decodeAccess 0x300 (.read8 0x300) = .op .dr8 ∧ decodeAccess 0x300 (.read8 0x301) = .op .stat ∧
    decodeAccess 0x300 (.read16 0x301) = .reject .widthMismatch ∧
    decodeAccess 0x300 (.write8 0x302 0xFF#8) = .reject .widthMismatch := by decide

/-- Opcode-table words: a command byte, a 16-bit data word, and whole accesses (log entry 10). -/
theorem test_decodeTableWord :
    decodeTableWord 8 0xEB = some .setTc3 ∧ decodeTableWord 16 0x8B22 = some (.dw16 0x8B22#16) ∧
    decodeTableWord 24 0x020000 = some .dr16 ∧ decodeTableWord 24 0x030034 = some (.dw8 0x34#8) ∧
    decodeTableWord 24 0x040000 = some .dr8 ∧ decodeTableWord 24 0x050000 = some .stat ∧
    decodeTableWord 8 0x60 = none := by decide

/-! ### Register access -/

/-- V40-14. -/
theorem test_select_replaces : see (exec .selectLoad2 { booted with dp := some (.mode .c1) }) (·.dp) = some (some (.load .c2)) := rfl

/-- V70-2, V70-8. -/
theorem test_selectMM_in_boot :
    why (exec .selectMM { State.reset with initLd := 0x0F#5 }) = some .notBooted ∧
    see (exec .selectMM { State.reset with initLd := 0x1F#5 }) (·.dp) = some (some .mm) := ⟨rfl, rfl⟩

/-- V40-1. -/
theorem test_dw16 :
    see (exec (.dw16 5#16) (selected true)) (fun u => (u.load.c3, u.dp, u.cnt.c3)) =
      some (.known 5#16, none, .unknown 0#16) := by decide

/-- V40-6, V40-8. -/
theorem test_dw16_refused :
    why (exec (.dw16 1#16) booted) = some .noTarget ∧
    why (exec (.dw16 0#16) { booted with dp := some (.hold .c3) }) = some .holdWrite := by decide

/-- V70-9: the master-mode write ends the boot sequence. -/
theorem test_dw16_ends_boot :
    see (exec (.dw16 0#16) { State.reset with initLd := 0x1F#5, dp := some .mm }) (fun u => (u.mm, u.initMm, u.ready)) =
      some (.known 0#16, true, true) := by decide

/-- V40-2, V40-19. -/
theorem test_dr16 :
    see (exec .dr16 (selected true)) (fun u => (u.returned, u.dp)) = some ([.data16 0x1234#16], none) ∧
    see (exec .dr16 { booted with cnt := sameReg (.known 2#16), hold := sameReg (.known 9#16), dp := some (.hold .c3) })
      (·.returned) = some [.data16 9#16] := ⟨rfl, rfl⟩

/-- V40-3. -/
theorem test_dw8 :
    see (exec (.dw8 0x34#8) { selected false with load := sameReg (.unknown 0#16) })
      (fun u => (u.load.c3.val.low, u.load.c3.knownLow, u.load.c3.knownHigh, u.xfer)) = some (0x34#8, true, false, .wrHi) ∧
    see (exec (.dw8 0x12#8) { halfWritten with load := sameReg ⟨0x0034#16, true, false⟩ })
      (fun u => (u.load.c3, u.xfer, u.dp)) = some (.known 0x1234#16, .idle, none) := by decide

/-- V40-9, V40-11. -/
theorem test_8bit_refused :
    why (exec (.dw8 0x34#8) (selected true)) = some .widthMismatch ∧ why (exec .dr8 halfWritten) = some .mixedTransfer := by
  decide

/-- V40-4. -/
theorem test_dr8 :
    see (exec .dr8 (selected false)) (fun u => (u.returned, u.xfer)) = some ([.data8 0x34#8], .rdHi) ∧
    see (exec .dr8 halfRead) (fun u => (u.returned, u.xfer, u.dp)) = some ([.data8 0x12#8], .idle, none) := ⟨rfl, rfl⟩

/-- V40-16: the returned byte masked with 0x3E is 0x04, whatever the free bits. -/
theorem test_stat (free : Word) :
    let b := (running .c2 0x0002#16 0#16 0#16 true).statusByte free
    b.getLsbD 1 = false ∧ b.getLsbD 2 = true ∧ b.getLsbD 3 = false ∧ b.getLsbD 4 = false ∧ b.getLsbD 5 = false := by
  exact ⟨(statusByte_bit _ free .c1).trans rfl, (statusByte_bit _ free .c2).trans rfl, (statusByte_bit _ free .c3).trans rfl,
    (statusByte_bit _ free .c4).trans rfl, (statusByte_bit _ free .c5).trans rfl⟩

/-- V40-17, V40-18. -/
theorem test_outLine :
    (running .c2 0x0001#16 0#16 0#16 true).outLine .c2 = some false ∧
    (running .c2 0x0003#16 0#16 0#16 true).outLine .c2 = none := by decide

/-- V40-12, V70-6. -/
theorem test_stat_refused : why (exec .stat halfWritten) = some .midTransfer ∧ why (exec .stat State.reset) = some .notBooted := by
  decide

/-! ### Counter control -/

/-- V41-1, V41-2. -/
theorem test_arm : see (exec (.arm 0b00011#5) booted) (·.armed) = some ⟨true, true, false, false, false⟩ := by decide
theorem test_disarm :
    see (exec (.disarm 0b00001#5) { booted with armed := ⟨true, true, false, false, false⟩ }) (·.armed) =
      some ⟨false, true, false, false, false⟩ := by decide

/-- V70-1. -/
theorem test_arm_before_boot : why (exec (.arm 1#5) State.reset) = some .notBooted := rfl

/-- V41-4, V41-5, V41-6, V41-8, V41-9: mode and load of channel 2, what LOAD leaves or why it is refused. -/
theorem test_load :
    see (exec (.load 0b00010#5) (running .c2 0x0002#16 9#16 2#16 true)) (·.cnt.c2) = some (.known 2#16) ∧
    see (exec (.load 0b00010#5) (running .c2 0x0002#16 9#16 0#16 true)) (·.cnt.c2) = some (.known 0xFFFF#16) ∧
    see (exec (.load 0b00010#5) (running .c2 0x000A#16 9#16 0#16 true)) (·.cnt.c2) = some (.known 0#16) ∧
    why (exec (.load 0b00010#5) (running .c2 0x0B02#16 9#16 2#16 true)) = some .smallLoad ∧
    see (exec (.load 0b00010#5) (running .c2 0x0B02#16 9#16 3#16 true)) (·.cnt.c2) = some (.known 3#16) := by decide

/-- V70-3, V70-5, V41-18. -/
theorem test_load_dummy :
    see (exec (.load 0x0F#5) State.reset) (·.initLd) = some 0x0F#5 ∧
    see (exec (.load 0x10#5) { State.reset with initLd := 0x0F#5 }) (fun u => (u.initLd, u.cnt.c5.specified)) =
      some (0x1F#5, false) ∧
    why (exec (.load 0b00100#5) booted) = some .unspecifiedMode := ⟨rfl, rfl, rfl⟩

/-- V41-13. -/
theorem test_save :
    see (exec (.save 0b00111#5) { chain with cnt := ⟨.known 0#16, .known 0#16, .known 8#16, .known 1#16, .known 1#16⟩ })
      (·.hold) = some ⟨.known 0#16, .known 0#16, .known 8#16, .unknown 0#16, .unknown 0#16⟩ := by decide

/-- V41-14, V41-15. -/
theorem test_setTc : see (exec .setTc2 (running .c2 2#16 0#16 0#16 false)) (fun u => (u.tgl.c2, u.outLine .c2)) =
    some (.is true, some true) := by decide
theorem test_clearTc : see (exec .clearTc2 (running .c2 2#16 0#16 0#16 true)) (·.tgl.c2) = some (.is false) := rfl

/-- V40-13, V41-16. -/
theorem test_reset :
    see (exec .reset halfWritten) (fun u => (u.armed, u.dp, u.xfer, u.initLd, u.initMm, u.load.c3.specified)) =
      some (⟨false, false, false, false, false⟩, none, .idle, 0#5, false, false) := rfl

/-- V41-17. -/
theorem test_reserved_refused :
    why (step { booted with schedule := [.host (.write8 1 0x60#8)] }) = some .reservedCommand ∧
    why (step { booted with schedule := [.host (.write8 1 0xF1#8)] }) = some .reservedCommand := ⟨rfl, rfl⟩

/-! ### Counting -/

/-- V42-1: the count before the terminal count, and the terminal count. -/
theorem test_terminal_count :
    seeEnv (srcEdge .c1 .rising (running .c2 0x0102#16 2#16 7#16 true)) (fun u => (u.cnt.c2, u.tgl.c2, u.armed.c2)) =
      some (.known 1#16, .is true, true) ∧
    seeEnv (srcEdge .c1 .rising (running .c2 0x0102#16 0#16 7#16 true)) (fun u => (u.cnt.c2, u.tgl.c2, u.armed.c2)) =
      some (.known 7#16, .is false, false) := by decide

/-- V42-6, V42-7: the pulse output and the inactive output. -/
theorem test_pulse_output :
    seeEnv (srcEdge .c1 .rising (running .c1 0x0121#16 0#16 4#16 true)) (fun u => (u.history, u.cnt.c1, u.armed.c1)) =
      some ([.c1], .known 4#16, true) ∧
    seeEnv (srcEdge .c1 .rising (running .c1 0x0120#16 0#16 4#16 true)) (fun u => (u.history, u.cnt.c1, u.tgl.c1)) =
      some ([], .known 4#16, .is true) := by decide

/-- V42-8, V42-9: a rising and a falling tap edge. -/
theorem test_tap_edges :
    seeEnv (clkTick { running .c3 0x0C02#16 7#16 9#16 true with psc := 0x000F#16 }) (fun u => (u.psc, u.cnt.c3)) =
      some (0x0010#16, .known 6#16) ∧
    seeEnv (clkTick { running .c2 0x1C02#16 9#16 9#16 true with psc := 0x0007#16 }) (fun u => (u.psc, u.cnt.c2)) =
      some (0x0008#16, .known 8#16) := by decide

/-- V42-11: the prescaler wraps with an edge of every tap. -/
theorem test_prescaler_wrap :
    seeEnv (clkTick { running .c3 0x0F02#16 7#16 9#16 true with psc := 0xFFFF#16 }) (fun u => (u.psc, u.cnt.c3)) =
      some (0#16, .known 6#16) := by decide

/-- V42-13, V42-14: gate high and gate low. -/
theorem test_gates :
    seeEnv (srcEdge .c1 .rising (running .c1 0x8129#16 0#16 0#16 true)) (·.cnt.c1) = some (.known 0#16) ∧
    seeEnv (srcEdge .c1 .rising { running .c1 0x8129#16 0#16 0#16 true with gateIn := sameLatch (.is true) }) (·.cnt.c1) =
      some (.known 1#16) ∧
    seeEnv (srcEdge .c1 .rising (running .c1 0xA129#16 1#16 0#16 true)) (·.cnt.c1) = some (.known 2#16) := by decide

/-- V42-15: the ripple in one step. -/
theorem test_ripple :
    seeEnv (srcEdge .c1 .rising chain) (fun u => (u.cnt.c1, u.cnt.c2, u.cnt.c3, u.history, u.armed)) =
      some (.known 0#16, .known 0#16, .known 8#16, [.c1, .c2], chain.armed) := by decide

/-- V42-16: the carry into a disarmed channel is lost. -/
theorem test_lost_carry :
    seeEnv (srcEdge .c1 .rising { chain with armed := ⟨true, false, false, false, false⟩ })
      (fun u => (u.cnt.c1, u.cnt.c2)) = some (.known 0#16, .known 0xFFFF#16) := by decide

/-- V42-17 to V42-20. -/
theorem test_event_refusals :
    whyEnv (clkTick (running .c1 0x0002#16 0#16 0#16 true)) = some .badMode ∧
    whyEnv (clkTick { running .c3 0x0B02#16 0#16 9#16 true with cnt := sameReg (.unknown 0#16) }) = some .unspecifiedCount ∧
    whyEnv (clkTick { timer 5#16 true with tgl := sameLatch (.unknown true) }) = some .unspecifiedGate ∧
    whyEnv (clkTick (running .c3 0x0B22#16 0#16 2#16 true)) = some .smallLoad := by decide

/-- P1, rows 10, 11 and 13: the timer counts, stops itself and stands still. -/
theorem test_timer :
    seeEnv (clkTick (timer 5#16 true)) (fun u => (u.cnt.c3, u.tgl.c3)) = some (.known 4#16, .is true) ∧
    seeEnv (clkTick (timer 0#16 true)) (fun u => (u.cnt.c3, u.tgl.c3, u.armed.c3)) = some (.known 5#16, .is false, true) ∧
    seeEnv (clkTick (timer 5#16 false)) (fun u => (u.cnt.c3, u.psc)) = some (.known 5#16, 0x1235#16) := by decide

/-- R130: no gate step on a line wired to an output (log entry 12). -/
theorem test_gateSet_wired : whyEnv (gateSet .c3 true (timer 5#16 true)) = some .gateNotExternal := rfl

/-- S1: the chain's composed value. -/
theorem test_composeChain : composeChain [0x0001#16, 0xFFFF#16] = 0x1FFFF := by decide

/-! ### Divider selection -/

/-- The tick counts of V43-6, V43-10b, V43-10c, V43-18, V43-22 and of R154's 860 s. -/
theorem test_ticks :
    ticksOfFrequency (5000000 : ℚ) 1000 = 5000 ∧ ticksOfFrequency (5000000 : ℚ) (1 / 1000) = 5000000000 ∧
    ticksOfFrequency (1000000 : ℚ) 3000000 = 0 ∧ ticksOfTime (5000000 : ℚ) 1 = 5000000 ∧ ticksOfTime (5000000 : ℚ) 859 = 4295000000 ∧
    ticksOfTime (5000000 : ℚ) 860 = 4300000000 := by
  decide +kernel

/-- V43-1, V43-4, V43-9 and V43-10c. -/
theorem test_selectDuty :
    selectDuty 4294967295 (5000000 : ℚ) 1000000 = .ok (.f1, 5) ∧ selectDuty 4294967295 (5000000 : ℚ) 39063 = .ok (.f2, 8) ∧
    selectDuty 4294967295 (5000000 : ℚ) 1 = .ok (.f5, 76) ∧ selectDuty 4294967295 (1000000 : ℚ) 3000000 = .error .frequencyTooHigh := by decide +kernel

/-- V43-11, V43-16 and V43-18. -/
theorem test_selectAccuracy :
    selectAccuracy 4294967295 (5000000 : ℚ) (-1) = .ok (.f1, 3) ∧
    selectAccuracy 4294967295 (5000000 : ℚ) (131072 / 10000000) = .ok (.f2, 4096) ∧
    selectAccuracy 4294967295 (5000000 : ℚ) 1 = .ok (.f3, 19531) := by decide +kernel

/-- V43-23 to V43-26. -/
theorem test_mergeDivider :
    mergeDivider 0x8B22#16 .f3 = 0x8D22#16 ∧ mergeDivider 0x8F22#16 .f1 = 0x8B22#16 ∧
    dividerOf 0x8D22#16 = .ok .f3 ∧ dividerOf 0x0129#16 = .error .notADivider := by decide

/-- V43-28. -/
theorem test_timeOf : timeOf 19531#16 0x8D22#16 (5000000 : ℚ) = .ok (9999872 / 10000000) := by decide +kernel

/-- R203 and P4 row 3. -/
theorem test_singleStepMode : singleStepMode 0x8B21#16 = 0x0B01#16 := by decide

/-! ### Witnesses: a state and operands that meet the hypotheses of each statement that has any, clause by clause -/

theorem witness_EncodeOfDecodeIsTheAccess : decodeAccess 0x300 (.write8 0x301 0x0B#8) = .op .selectLoad3 := by decide

theorem witness_StepRunsTheDecodedInstruction :
    let s : State := { booted with schedule := [.host (.write8 1 0x0B#8), .clkTick] }
    s.schedule = .host (.write8 1 0x0B#8) :: [.clkTick] ∧ decodeAccess s.plat.base (.write8 1 0x0B#8) = .op .selectLoad3 := by
  decide

theorem witness_StepMakesTheEnvironmentStep :
    booted.schedule = [] ∧ ({ booted with schedule := [.clkTick] } : State).schedule = .clkTick :: [] ∧
    ({ booted with schedule := [.srcEdge .c1 .falling] } : State).schedule = .srcEdge .c1 .falling :: [] ∧
    ({ booted with schedule := [.gateSet .c5 true] } : State).schedule = .gateSet .c5 true :: [] := ⟨rfl, rfl, rfl, rfl⟩

theorem witness_PlacedTableWordRunsNext :
    decodeTableWord 8 0xFF = some .reset ∧ decodeTableWord 16 0xFFFF = some (.dw16 0xFFFF#16) ∧
    decodeTableWord 24 0x050000 = some .stat := by decide

/-- One schedule for each clause; ports 0 and 1 are the block's, so 2 is the first that is not. -/
theorem witness_NonOperationsAreRefused :
    let at1 (a : Access) : State := { booted with schedule := [.host a] }
    ((at1 (.write8 1 0x60#8)).schedule = .host (.write8 (booted.plat.base + 1) 0x60#8) :: [] ∧ decodeCommand 0x60#8 = none) ∧
    (at1 (.write16 1 0#16)).schedule = .host (.write16 (booted.plat.base + 1) 0#16) :: [] ∧
    (at1 (.read16 1)).schedule = .host (.read16 (booted.plat.base + 1)) :: [] ∧
    (2 ≠ booted.plat.base ∧ 2 ≠ booted.plat.base + 1) ∧
    (at1 (.write8 2 0xFF#8)).schedule = .host (.write8 2 0xFF#8) :: [] ∧
    (at1 (.write16 2 0#16)).schedule = .host (.write16 2 0#16) :: [] ∧
    (at1 (.read8 2)).schedule = .host (.read8 2) :: [] ∧ (at1 (.read16 2)).schedule = .host (.read16 2) :: [] := by decide

theorem witness_SelectSetsTheDataPointer :
    (booted.xfer = .idle ∧ booted.ready = true) ∧
    (({ State.reset with initLd := 0x1F#5 } : State).xfer = .idle ∧
      ({ State.reset with initLd := 0x1F#5 } : State).initLd = allChannels) := by decide

theorem witness_SelectRefusals :
    halfRead.xfer ≠ .idle ∧
    (State.reset.xfer = .idle ∧ State.reset.ready = false ∧ ¬(Target.mm = .mm ∧ State.reset.initLd = allChannels)) := by decide

/-- The refusals of R82 on either bus width, one state for each check: width, no target, not booted, mixed direction twice, hold
write. -/
theorem witness_PortRefusals (bus16 : Bool) :
    let s (d : Option Target) (p : Phase) : State :=
      { booted with plat := { resetPlatform with bus16 := bus16 }, dp := d, xfer := p }
    let u : State := { s (some (.load .c3)) .idle with initMm := false }
    ((s none .idle).plat.bus16 ≠ !bus16) ∧
    ((s none .idle).plat.bus16 = bus16 ∧ (s none .idle).dp = none) ∧
    (u.plat.bus16 = bus16 ∧ u.dp = some (.load .c3) ∧ u.ready = false ∧ ¬(Target.load .c3 = .mm ∧ true = true)) ∧
    ((s (some .mm) .wrHi).plat.bus16 = bus16 ∧ (s (some .mm) .wrHi).dp = some .mm ∧ (s (some .mm) .wrHi).ready = true ∧
      (s (some .mm) .wrHi).xfer = .wrHi ∧ false = false) ∧
    ((s (some .mm) .rdHi).plat.bus16 = bus16 ∧ (s (some .mm) .rdHi).dp = some .mm ∧ (s (some .mm) .rdHi).ready = true ∧
      (s (some .mm) .rdHi).xfer = .rdHi ∧ true = true) ∧
    ((s (some (.hold .c3)) .idle).plat.bus16 = bus16 ∧ (s (some (.hold .c3)) .idle).dp = some (.hold .c3) ∧
      (s (some (.hold .c3)) .idle).ready = true ∧ (s (some (.hold .c3)) .idle).xfer ≠ .rdHi ∧ true = true ∧
      Target.isHold (.hold .c3) = true) := by cases bus16 <;> decide

theorem witness_DataWrite16StoresTheWord :
    (selected true).plat.bus16 = true ∧ (selected true).dp = some (.load .c3) ∧ (selected true).ready = true ∧
    (selected true).xfer ≠ .rdHi ∧ Target.isHold (.load .c3) = false := by decide

theorem witness_DataRead16ReturnsTheWord :
    (selected true).plat.bus16 = true ∧ (selected true).dp = some (.load .c3) ∧ (selected true).ready = true ∧
    (selected true).xfer ≠ .wrHi ∧ ((selected true).reg (.load .c3)).specified = true := by decide

theorem witness_DataWrite8WritesLowThenHigh :
    ((selected false).plat.bus16 = false ∧ (selected false).dp = some (.load .c3) ∧ (selected false).ready = true ∧
      (selected false).xfer = .idle ∧ Target.isHold (.load .c3) = false) ∧
    (halfWritten.plat.bus16 = false ∧ halfWritten.dp = some (.load .c3) ∧ halfWritten.ready = true ∧
      halfWritten.xfer = .wrHi) := by decide

theorem witness_DataRead8ReturnsLowThenHigh :
    ((selected false).plat.bus16 = false ∧ (selected false).dp = some (.load .c3) ∧ (selected false).ready = true ∧
      (selected false).xfer = .idle ∧ ((selected false).reg (.load .c3)).knownLow = true) ∧
    (halfRead.plat.bus16 = false ∧ halfRead.dp = some (.load .c3) ∧ halfRead.ready = true ∧ halfRead.xfer = .rdHi ∧
      (halfRead.reg (.load .c3)).knownHigh = true) := by decide

theorem witness_StatusReadShowsTheOutputLines :
    let s : State := running .c2 2#16 0#16 0#16 true
    s.xfer = .idle ∧ s.ready = true ∧ s.outLine .c2 = some true ∧ s.outLine .c1 = some false := by decide

theorem witness_StatusReadRefusals :
    halfWritten.xfer ≠ .idle ∧ State.reset.xfer = .idle ∧ State.reset.ready = false := by decide

theorem witness_OutputLineFollowsTheMode :
    let s (m : Word) : State := running .c2 m 0#16 0#16 true
    ((s 2#16).mode.get .c2).specified = true ∧ ((s 2#16).modeVal .c2).extractLsb' 0 3 = 0b010#3 ∧
    ((s 2#16).tgl.get .c2).known = true ∧
    (({ s 2#16 with tgl := sameLatch (.unknown true) } : State).tgl.get .c2).known = false ∧
    ((s 0#16).modeVal .c2).extractLsb' 0 3 = 0b000#3 ∧ ((s 1#16).modeVal .c2).extractLsb' 0 3 = 0b001#3 ∧
    3 ≤ (((s 3#16).modeVal .c2).extractLsb' 0 3).toNat ∧ 3 ≤ (((s 7#16).modeVal .c2).extractLsb' 0 3).toNat ∧
    (booted.mode.get .c2).specified = false := by decide

theorem witness_TwoByteWritesAreOneWordWrite :
    (selected false).plat.bus16 = false ∧ (selected false).dp = some (.load .c3) ∧ (selected false).ready = true ∧
    (selected false).xfer = .idle ∧ Target.isHold (.load .c3) = false := by decide

theorem witness_WrittenRegisterReadsBack :
    booted.ready = true ∧ booted.xfer = .idle ∧ Target.isHold .mm = false ∧ booted8.ready = true ∧ booted8.xfer = .idle := by
  decide

/-- ARM, DISARM, SAVE, SET_TC and CLEAR_TC: between transfers after boot, in the middle of a transfer, before boot. -/
theorem witness_ArmSetsTheNamedChannels :
    (booted.xfer = .idle ∧ booted.ready = true ∧ Mask.names 0b10000#5 .c5 = true ∧ booted.modeOK .c5 = false) ∧
    halfWritten.xfer ≠ .idle ∧ (State.reset.xfer = .idle ∧ State.reset.ready = false) := by decide

theorem witness_DisarmClearsTheNamedChannels :
    (booted.xfer = .idle ∧ booted.ready = true ∧ Mask.names 0b00001#5 .c1 = true) ∧
    halfRead.xfer ≠ .idle ∧ (State.reset.xfer = .idle ∧ State.reset.ready = false) := by decide

theorem witness_SaveCopiesTheCounters :
    (chain.xfer = .idle ∧ chain.ready = true) ∧ halfRead.xfer ≠ .idle ∧
    (State.reset.xfer = .idle ∧ State.reset.ready = false) := by decide

theorem witness_ForcedOutputSetsTheLatch :
    (chain.xfer = .idle ∧ chain.ready = true) ∧ halfRead.xfer ≠ .idle ∧
    (State.reset.xfer = .idle ∧ State.reset.ready = false) := by decide

/-- The ways a load register is admitted, at their boundaries: 1 and 2 counting up, 1 from an external line, 0 and 3 into a
tap-sourced down-counter. -/
theorem witness_LoadCopiesTheLoadRegisters :
    let ok (m l : Word) : Prop :=
      let s := running .c2 m 9#16 l true
      s.xfer = .idle ∧ s.ready = true ∧
        ∀ n, Mask.names 0b00010#5 n = true → (s.mode.get n).specified = true ∧ (s.load.get n).specified = true ∧
          ((s.modeVal n).getLsbD 3 = true ∨ ((s.modeVal n).extractLsb' 8 4).toNat < 11 ∨
            ((s.load.get n).val ≠ 1#16 ∧ (s.load.get n).val ≠ 2#16))
    ok 0x0B0A#16 1#16 ∧ ok 0x0B0A#16 2#16 ∧ ok 0x0102#16 1#16 ∧ ok 0x0B02#16 0#16 ∧ ok 0x0B02#16 3#16 := by
  refine ⟨?_, ?_, ?_, ?_, ?_⟩ <;> refine ⟨rfl, by decide, fun n h => ?_⟩ <;> cases n <;> first
    | exact absurd h (by decide)
    | decide

theorem witness_DummyLoadNotesTheChannels :
    State.reset.xfer = .idle ∧ State.reset.ready = false ∧ Mask.names 0b00010#5 .c2 = true ∧
    Mask.names 0b00010#5 .c1 = false := by decide

/-- A mask of one channel, and one of three whose second is the bad one and whose third is bad too. -/
theorem witness_LoadRefusals :
    (let s : State := { chain with load := ⟨.known 0#16, .unknown 0#16, .known 1#16, .known 0#16, .known 0#16⟩ }
     s.xfer = .idle ∧ s.ready = true ∧ Mask.names 0b00111#5 .c2 = true ∧ ¬Loadable s .c2 ∧
     (∀ j, Mask.names 0b00111#5 j = true → j.num < Chan.c2.num → Loadable s j) ∧ (s.load.get .c2).specified = false) ∧
    (Mask.names (maskOf .c2) .c2 = true ∧
      ∀ (s : State) j, Mask.names (maskOf .c2) j = true → j.num < Chan.c2.num → Loadable s j) ∧
    halfWritten.xfer ≠ .idle ∧ (booted.xfer = .idle ∧ booted.ready = true) ∧ (booted.mode.get .c2).specified = false ∧
    (let s : State := { running .c2 0x0B02#16 9#16 0#16 true with load := sameReg (.unknown 0#16) }
     s.xfer = .idle ∧ s.ready = true ∧ (s.mode.get .c2).specified = true ∧ (s.load.get .c2).specified = false) ∧
    (let s (l : Word) : State := running .c2 0x0B02#16 9#16 l true
     (s 1#16).xfer = .idle ∧ (s 1#16).ready = true ∧ ((s 1#16).mode.get .c2).specified = true ∧
     ((s 1#16).load.get .c2).specified = true ∧ ((s 1#16).modeVal .c2).getLsbD 3 = false ∧
     11 ≤ (((s 1#16).modeVal .c2).extractLsb' 8 4).toNat ∧ ((s 1#16).load.get .c2).val = 1#16 ∧
     ((s 2#16).load.get .c2).val = 2#16) := by
  refine ⟨⟨by decide, by decide, by decide, fun h => absurd h.load (by decide), fun j _ hj => ?_, by decide⟩,
    ⟨by decide, fun s j hm hj => ?_⟩, by decide⟩
  · cases j <;> first | exact ⟨by decide, by decide, by decide⟩ | exact absurd hj (by decide)
  · cases j <;> first | exact absurd hm (by decide) | exact absurd hj (by decide)

theorem witness_MaskZeroChangesNothing :
    (State.reset.xfer = .idle) ∧ (booted.xfer = .idle ∧ booted.ready = true) := by decide

/-- LOAD, SELECT MM, the two forms of the MM write and RESET all answer a next state before boot is complete. -/
theorem witness_OnlyTheBootSequenceBeforeReady :
    let s : State := { State.reset with initLd := 0x1F#5 }
    let d : State := { s with dp := some .mm }
    let d8 : State := { d with plat := { resetPlatform with bus16 := false } }
    s.ready = false ∧ (see (exec (.load 1#5) s) fun _ => ()) = some () ∧ (see (exec .selectMM s) fun _ => ()) = some () ∧
    (see (exec .reset s) fun _ => ()) = some () ∧ (d.ready = false ∧ (see (exec (.dw16 0#16) d) fun _ => ()) = some ()) ∧
    (d8.ready = false ∧ (see (exec (.dw8 0#8) d8) fun _ => ()) = some ()) := ⟨rfl, rfl, rfl, rfl, ⟨rfl, rfl⟩, ⟨rfl, rfl⟩⟩

theorem witness_OnlyTheSecondByteMidTransfer :
    (halfWritten.plat.bus16 = false ∧ halfWritten.xfer ≠ .idle ∧ (see (exec (.dw8 0#8) halfWritten) fun _ => ()) = some ()) ∧
    (halfRead.plat.bus16 = false ∧ halfRead.xfer ≠ .idle ∧ (see (exec .dr8 halfRead) fun _ => ()) = some ()) := by
  refine ⟨by decide, rfl, by decide, rfl⟩

theorem witness_HoldChangesOnlyBySaveOrReset :
    see (step { chain with schedule := [.host (.write8 1 0xA1#8)] }) (fun u => decide (u.hold ≠ chain.hold)) = some true := by
  decide

/-- ARM, DISARM, RESET and the one-shot each change an armed bit. -/
theorem witness_ArmedChangesOnlyAsListed :
    see (step { chain with schedule := [.host (.write8 1 0x28#8)] }) (·.armed.c4) = some true ∧ chain.armed.c4 = false ∧
    see (step { chain with schedule := [.host (.write8 1 0xC1#8)] }) (·.armed.c1) = some false ∧ chain.armed.c1 = true ∧
    see (step { chain with schedule := [.host (.write8 1 0xFF#8)] }) (·.armed.c1) = some false ∧
    see (step { running .c2 0x0102#16 0#16 7#16 true with schedule := [.srcEdge .c1 .rising] }) (·.armed.c2) = some false ∧
    (running .c2 0x0102#16 0#16 7#16 true).armed.c2 = true := ⟨rfl, rfl, rfl, rfl, rfl, rfl, rfl⟩

theorem witness_EnvironmentWritesOnlyCountingState :
    see (step chain) (·.psc) = some 1#16 ∧ (∀ a rest, chain.schedule ≠ .host a :: rest) ∧
    see (step { chain with schedule := [.srcEdge .c1 .rising] }) (·.cnt.c1) = some (.known 0#16) ∧
    see (step { chain with schedule := [.gateSet .c1 true] }) (·.gateIn.c1) = some (.is true) := by
  refine ⟨by decide, fun a rest h => (by cases h), by decide, by decide⟩

theorem witness_PlatformIsConstant : see (step booted) (·.plat) = some booted.plat := by decide

theorem witness_HostSeesTheCountOnlyThroughSave :
    (∀ m, Instr.dr16 ≠ .save m) ∧ (see (exec .dr16 (selected true)) fun _ => ()) = some () :=
  ⟨fun _ h => (by cases h), rfl⟩

/-- A state in the middle of a write that meets the invariant, and takes a step. -/
theorem witness_EveryStepKeepsTheInvariant :
    Inv halfWritten ∧ (see (step { halfWritten with schedule := [.host (.write8 0 0x12#8)] }) fun _ => ()) = some () := by
  refine ⟨?_, rfl⟩
  constructor
  · decide
  · decide
  · intro _ n h; cases h
  · decide
  · intro h; exact absurd h (by decide)
  · intro h; exact absurd h (by decide)
  · decide
  · decide
  · intro t
    refine .inr ?_
    cases t with
    | mm => rfl
    | mode n => cases n <;> rfl
    | load n => cases n <;> rfl
    | hold n => cases n <;> rfl
  · intro n; cases n <;> rfl
  · intro _ t h; cases h; rfl

theorem witness_CountEventsAreSafeAfterProgramming :
    EventSafe chain ∧ chain.armed.get .c1 = true ∧ (seeEnv (gateSet .c1 true chain) fun _ => ()) = some () := by
  refine ⟨fun n h => ?_, rfl, rfl⟩
  cases n
  case c1 => constructor <;> decide
  case c2 => constructor <;> decide
  case c3 => constructor <;> decide
  all_goals cases h

theorem witness_GateSetWritesTheGateLine :
    booted.plat.gateWire.get .c1 = .ext ∧ (timer 0#16 true).plat.gateWire.get .c3 = .out .c3 := ⟨rfl, rfl⟩

/-- V42-21: the modes may be anything. -/
theorem witness_DisarmedChannelsTakeNoPart :
    ∀ n, ({ booted with mode := sameReg (.known 0xFFFF#16) } : State).armed.get n = false := by intro n; cases n <;> rfl

theorem witness_CountEventRefusals :
    ((running .c1 0x0002#16 0#16 0#16 true).armed.get .c1 = true ∧ (running .c1 0x0002#16 0#16 0#16 true).modeOK .c1 = false) ∧
    (let s : State := { timer 5#16 true with tgl := sameLatch (.unknown true) }
     s.armed.get .c3 = true ∧ (∀ m, s.armed.get m = true → s.modeOK m = true) ∧ s.gateOK .c3 = none) := by
  refine ⟨by decide, rfl, fun m h => ?_, by decide⟩
  cases m
  case c3 => decide
  all_goals cases h

theorem witness_GateLevelDecidesCounting :
    let s (m : Word) : State := running .c1 m 0#16 0#16 true
    ((s 0x0129#16).modeVal .c1).extractLsb' 13 3 = 0b000#3 ∧
    (((s 0x8129#16).modeVal .c1).extractLsb' 13 3 = 0b100#3 ∧ (s 0x8129#16).gateLine .c1 = some false) ∧
    (((s 0xA129#16).modeVal .c1).extractLsb' 13 3 = 0b101#3 ∧ (s 0xA129#16).gateLine .c1 = some false) ∧
    (timer 0#16 true).plat.gateWire.get .c3 = .out .c3 ∧
    ((s 0x8129#16).plat.gateWire.get .c1 = .ext ∧ ((s 0x8129#16).gateIn.get .c1).known = true) ∧
    (let u (m : Word) : State := { s m with gateIn := sameLatch (.unknown true) }
     (u 0x8129#16).plat.gateWire.get .c1 = .ext ∧ ((u 0x8129#16).gateIn.get .c1).known = false ∧
     ((u 0x8129#16).modeVal .c1).extractLsb' 13 3 = 0b100#3 ∧ (u 0x8129#16).gateLine .c1 = none ∧
     ((u 0xA129#16).modeVal .c1).extractLsb' 13 3 = 0b101#3 ∧ (u 0xA129#16).gateLine .c1 = none) := by decide

theorem witness_TapEdgesNest :
    (Tap.f2.num ≤ Tap.f3.num ∧ tapEdge 0x0100#16 .f3 .rising = true) ∧
    (Tap.f2.num < Tap.f3.num ∧ tapEdge 0x0080#16 .f3 .falling = true) := by decide

theorem witness_TapEdgesComeEveryPeriod :
    (tapEdge 0#16 .f5 .rising = true ∧ (1 : Nat) ≤ 65536) ∧ tapEdge 0x8000#16 .f5 .falling = true ∧ 1 < Tap.f2.num := by decide

/-- Two armed channels of V42-12: channel 1 on the rising and channel 4 on the falling edge of line 1. -/
def twoOnOneLine : State :=
  { booted with
    mode := { c1 := .known 0x0129#16, c2 := .known 0#16, c3 := .known 0#16, c4 := .known 0x1102#16, c5 := .known 0#16 }
    cnt := { c1 := .known 5#16, c2 := .known 0#16, c3 := .known 0#16, c4 := .known 9#16, c5 := .known 0#16 }
    load := sameReg (.known 0#16)
    armed := { c1 := true, c2 := false, c3 := false, c4 := true, c5 := false } }

/-- V42-12, and P3 row 8's edge of another line. -/
theorem test_line_edges :
    seeEnv (srcEdge .c1 .rising twoOnOneLine) (fun u => (u.cnt.c1, u.cnt.c4)) = some (.known 6#16, .known 9#16) ∧
    seeEnv (srcEdge .c1 .falling twoOnOneLine) (fun u => (u.cnt.c1, u.cnt.c4)) = some (.known 5#16, .known 8#16) ∧
    seeEnv (srcEdge .c2 .rising twoOnOneLine) (·.cnt) = some twoOnOneLine.cnt := by decide

/-- A cascaded DOWN-counter above a down-counter: at the lower one's terminal count it moves by one, before it not at all. -/
theorem test_cascade_down :
    let s (c : Word) : State := { chain with
      mode := ⟨.known 0x0121#16, .known 0x0022#16, .known 0x000A#16, .known 0#16, .known 0#16⟩
      cnt := ⟨.known c, .known 5#16, .known 7#16, .known 0#16, .known 0#16⟩ }
    seeEnv (srcEdge .c1 .rising (s 0#16)) (fun u => (u.cnt.c1, u.cnt.c2, u.cnt.c3)) =
      some (.known 0xFFFF#16, .known 4#16, .known 7#16) ∧
    seeEnv (srcEdge .c1 .rising (s 1#16)) (fun u => (u.cnt.c1, u.cnt.c2)) = some (.known 0#16, .known 5#16) := by decide

/-- The channels the ripple of V42-15 reaches: channel 1 from its line, 2 and 3 by the cascade; and channel 4 not. -/
theorem witness_Reached :
    (seeEnv (srcEdge .c1 .rising chain) fun _ => ()) = some () ∧
    Reached chain (LineHit chain .c1 .rising) .c1 ∧ Reached chain (LineHit chain .c1 .rising) .c2 ∧
    Reached chain (LineHit chain .c1 .rising) .c3 ∧ ¬Reached chain (LineHit chain .c1 .rising) .c4 := by
  have h1 : Reached chain (LineHit chain .c1 .rising) .c1 :=
    .source .c1 (by decide) (by decide) (by unfold LineHit; decide)
  have h2 : Reached chain (LineHit chain .c1 .rising) .c2 :=
    .cascade .c1 .c2 h1 (by decide) rfl (by decide) (by decide) (by decide)
  refine ⟨by decide, h1, h2, .cascade .c2 .c3 h2 (by decide) rfl (by decide) (by decide) (by decide), fun h => ?_⟩
  cases h with
  | source _ armed => exact absurd armed (by decide)
  | cascade _ _ _ _ _ _ armed => exact absurd armed (by decide)

/-- Each clause: an event that hits no armed channel, one that hits one between counts, at a terminal count, gated off, and a
disarmed channel; for lines and for taps of either edge. The cascaded channels are in witness_Reached. -/
theorem witness_EventsCountTheirChannels :
    (∀ n, twoOnOneLine.armed.get n = true →
      twoOnOneLine.modeOK n = true ∧ twoOnOneLine.gateOK n ≠ none ∧ ¬LineHit twoOnOneLine .c2 .rising n ∧
        ¬TapHit twoOnOneLine n) ∧
    ((seeEnv (srcEdge .c1 .rising twoOnOneLine) fun _ => ()) = some () ∧ twoOnOneLine.armed.get .c1 = true ∧
      twoOnOneLine.gateOK .c1 = some true ∧ LineHit twoOnOneLine .c1 .rising .c1 ∧
      (twoOnOneLine.cnt.get .c1).val ≠ lastCount twoOnOneLine .c1 ∧ ¬LineHit twoOnOneLine .c1 .rising .c4 ∧
      (twoOnOneLine.modeVal .c4).extractLsb' 8 4 ≠ 0b0000#4 ∧ twoOnOneLine.armed.get .c2 = false) ∧
    (LineHit chain .c1 .rising .c1 ∧ (chain.cnt.get .c1).val = lastCount chain .c1) ∧
    ((timer 5#16 false).gateOK .c3 = some false ∧ (seeEnv (clkTick (timer 5#16 false)) fun _ => ()) = some ()) ∧
    (let s : State := timer 5#16 true
     s.armed.get .c3 = true ∧ s.gateOK .c3 = some true ∧ TapHit s .c3 ∧ (seeEnv (clkTick s) fun _ => ()) = some ()) ∧
    TapHit { running .c2 0x1C02#16 9#16 9#16 true with psc := 0x0007#16 } .c2 := by
  refine ⟨fun n h => ?_, ⟨by decide, by decide, by decide, by unfold LineHit; decide, by decide, by unfold LineHit; decide,
    by decide, by decide⟩, ⟨by unfold LineHit; decide, by decide⟩, ⟨by decide, by decide⟩,
    ⟨by decide, by decide, ⟨.f1, by decide, by decide, by decide⟩, by decide⟩, ⟨.f2, by decide, by decide, by decide⟩⟩
  cases n
  case c1 => exact ⟨by decide, by decide, by unfold LineHit; decide, fun ⟨k, h, _⟩ => by cases k <;> exact absurd h (by decide)⟩
  case c4 => exact ⟨by decide, by decide, by unfold LineHit; decide, fun ⟨k, h, _⟩ => by cases k <;> exact absurd h (by decide)⟩
  all_goals exact absurd h (by decide)

theorem witness_LostEdgesChangeNothing :
    booted.armed.get .c1 = false ∧
    (chain.armed.get .c1 = true ∧ chain.modeOK .c1 = true ∧
      (⟨false, true, true, true, true⟩ : PerChan Bool).get .c1 = false) := by decide

theorem onlyArmed_running (n : Chan) (m c l : Word) (t : Bool) : OnlyArmed (running n m c l t) n := by
  refine ⟨by cases n <;> rfl, fun k h => ?_⟩
  cases n <;> cases k <;> first | rfl | exact absurd rfl h

/-- V42-18 and V42-20, their line-sourced like, and an unspecified load at a reload. -/
theorem witness_RefusedCountsStopTheEvent :
    let tap (l : Word) : State := running .c3 0x0B22#16 0#16 l true
    let line : State := running .c3 0x0122#16 0#16 9#16 true
    (OnlyArmed (tap 2#16) .c3 ∧ OnlyArmed line .c3) ∧
    ((tap 2#16).armed.get .c3 = true ∧ (tap 2#16).modeOK .c3 = true ∧ (tap 2#16).gateOK .c3 = some true ∧
      (tap 2#16).gates.get .c3 = true ∧ line.modeOK .c3 = true ∧ line.gateOK .c3 = some true) ∧
    TapHit (tap 2#16) .c3 ∧ LineHit line .c1 .rising .c3 ∧
    (({ line with cnt := sameReg (.unknown 0#16) } : State).cnt.get .c3).specified = false ∧
    ((line.cnt.get .c3).specified = true ∧ (line.cnt.get .c3).val = lastCount line .c3 ∧
      (({ line with load := sameReg (.unknown 0#16) } : State).load.get .c3).specified = false) ∧
    ((tap 2#16).cnt.get .c3 = .known 0#16 ∧ ((tap 2#16).load.get .c3).specified = true ∧
      ((tap 2#16).modeVal .c3).getLsbD 3 = false ∧ 11 ≤ (((tap 2#16).modeVal .c3).extractLsb' 8 4).toNat ∧
      ((tap 1#16).load.get .c3).val = 1#16 ∧ ((tap 2#16).load.get .c3).val = 2#16) :=
  ⟨⟨onlyArmed_running .c3 _ _ _ _, onlyArmed_running .c3 _ _ _ _⟩, by decide, ⟨.f1, by decide, by decide, by decide⟩,
    by unfold LineHit; decide, by decide, by decide, by decide⟩

/-- V42-1, counting down from 0 and from 2, and V42-5, counting up from 0xFFFE; one mode of each output code. -/
theorem witness_TerminalCountComesOnTheNextEvent :
    let s : State := running .c2 0x0102#16 2#16 7#16 true
    OnlyArmed s .c2 ∧
    (s.modeOK .c2 = true ∧ modeGC (s.modeVal .c2) = enc.gcNone ∧ modeSrc (s.modeVal .c2) = lineCode .c1 ∧
      s.cnt.get .c2 = .known 2#16 ∧ s.load.get .c2 = .known 7#16 ∧ modeOC (s.modeVal .c2) = enc.ocToggle ∧
      2 ≤ countsToGo (modeUp (s.modeVal .c2)) 2#16) ∧
    (countsToGo false 0#16 = 0 ∧ countsToGo true 0xFFFE#16 = 1 ∧ countsToGo true 0xFFFF#16 = 0) ∧
    ((running .c2 0x0121#16 2#16 7#16 true).modeOK .c2 = true ∧ modeOC 0x0121#16 = enc.ocPulse) ∧
    ((running .c2 0x0120#16 2#16 7#16 true).modeOK .c2 = true ∧ modeOC 0x0120#16 = enc.ocOff) :=
  ⟨onlyArmed_running .c2 _ _ _ _, by decide, by decide, by decide, by decide⟩

theorem witness_TerminalCountFeedsTheCascade :
    let ok (s : State) : Prop :=
      s.armed.get .c1 = true ∧ s.modeOK .c1 = true ∧ (s.cnt.get .c1).specified = true ∧
        atTerminal (modeUp (s.modeVal .c1)) (s.cnt.get .c1).val = true ∧ Chan.c2 ≠ .c1 ∧
        (seeEnv (terminalCount .c1 s) fun _ => ()) = some ()
    let off : State := { chain with armed := ⟨true, false, false, false, false⟩ }
    let line : State := { chain with mode := sameReg (.known 0x0129#16) }
    (⟨true, true, true, true, true⟩ : PerChan Bool).get .c1 = true ∧
    (ok chain ∧ chain.armed.get .c2 = true ∧ (chain.modeVal .c2).extractLsb' 8 4 = 0b0000#4) ∧
    (ok off ∧ off.armed.get .c2 = false) ∧ (ok line ∧ (line.modeVal .c2).extractLsb' 8 4 ≠ 0b0000#4) := by decide

/-- A pulse output on F2, load 3, at a rising tap edge; the same with load 0 at a falling one. -/
theorem witness_ContinuousTapPeriod :
    let s : State := running .c1 0x0C21#16 3#16 3#16 true
    OnlyArmed s .c1 ∧ (s.modeOK .c1 = true ∧ modeGC (s.modeVal .c1) = enc.gcNone ∧ modeSrc (s.modeVal .c1) = Tap.f2.code ∧
      modeUp (s.modeVal .c1) = false ∧ modeRep (s.modeVal .c1) = true ∧
      modeOC (s.modeVal .c1) = enc.ocPulse ∧ s.cnt.get .c1 = .known 3#16 ∧ s.load.get .c1 = .known 3#16 ∧
      3 ≤ (3#16).toNat ∧ tapEdge s.psc .f2 (modeEdge (s.modeVal .c1)) = true) ∧
    (let u : State := { running .c1 0x1C21#16 0xFFFF#16 0#16 true with psc := 8#16 }
     u.modeOK .c1 = true ∧ modeSrc (u.modeVal .c1) = Tap.f2.code ∧ u.cnt.get .c1 = .known 0xFFFF#16 ∧
      u.load.get .c1 = .known 0#16 ∧ tapEdge u.psc .f2 (modeEdge (u.modeVal .c1)) = true) :=
  ⟨onlyArmed_running .c1 _ _ _ _, by decide, by decide⟩

/-- The chain of P3 with the counters of V42-15, one event before the carry. -/
theorem witness_CascadedPairIsOneWideCounter :
    let s : State := { chain with armed := ⟨true, true, false, false, false⟩, cnt := ⟨.known 0xFFFF#16, .known 1#16, .known 7#16, .unknown 0#16, .unknown 0#16⟩ }
    Chan.c1.next? = some .c2 ∧ (s.armed.get .c1 = true ∧ s.armed.get .c2 = true) ∧
    (∀ j, j ≠ Chan.c1 → j ≠ .c2 → s.armed.get j = false) ∧
    (s.modeOK .c1 = true ∧ s.modeOK .c2 = true ∧ modeGC (s.modeVal .c1) = enc.gcNone ∧ modeGC (s.modeVal .c2) = enc.gcNone ∧
      modeSrc (s.modeVal .c1) = lineCode .c1 ∧ modeSrc (s.modeVal .c2) = enc.srcCascade ∧ modeUp (s.modeVal .c1) = true ∧
      modeUp (s.modeVal .c2) = true ∧ modeRep (s.modeVal .c1) = true ∧ s.cnt.get .c1 = .known 0xFFFF#16 ∧
      s.cnt.get .c2 = .known 1#16 ∧ s.load.get .c1 = .known 0#16) ∧
    (1#16 : Word).toNat * 65536 + (0xFFFF#16 : Word).toNat + 1 < 65536 * 65536 := by
  refine ⟨rfl, ⟨rfl, rfl⟩, fun j h1 h2 => ?_, by decide, by decide⟩
  cases j <;> first | rfl | exact absurd rfl h1 | exact absurd rfl h2

/-- The timer of P1. -/
theorem witness_SelfGatedTimerRunsOnceAndStops :
    let s := timer 5#16 true
    OnlyArmed s .c3 ∧ (s.modeOK .c3 = true ∧ s.plat.gateWire.get .c3 = .out .c3 ∧ modeGC (s.modeVal .c3) = enc.gcHigh ∧
      modeSrc (s.modeVal .c3) = Tap.f1.code ∧ modeUp (s.modeVal .c3) = false ∧ modeRep (s.modeVal .c3) = true ∧
      modeOC (s.modeVal .c3) = enc.ocToggle ∧ s.tgl.get .c3 = .is true ∧ s.cnt.get .c3 = .known 5#16 ∧
      s.load.get .c3 = .known 5#16 ∧ (5#16 : Word) ≠ 1#16 ∧ (5#16 : Word) ≠ 2#16) :=
  ⟨onlyArmed_running .c3 0x8B22#16 5#16 5#16 true, by decide⟩

/-- Two channels on one line, one of them with a pulse. -/
theorem witness_DeliveryOrderIsNotObservable :
    (seeEnv (deliver (lineActive .c1 .rising) ⟨true, true, true, true, true⟩ Chan.all chain) (·.history)) = some [.c1, .c2] ∧
    (seeEnv (deliver tickActive ⟨true, true, true, true, true⟩ Chan.all chain) (·.history)) = some [] := by decide

theorem witness_DutySelectorPicksTheLargestTap :
    selectDuty 4294967295 (5000000 : ℚ) 1000000 = .ok (.f1, 5) ∧ selectDuty 4294967295 (5000000 : ℚ) 39063 = .ok (.f2, 8) ∧
    (0 : ℚ) < 1000 ∧ (0 : ℚ) < 5000000 ∧ 1 ≤ ticksOfFrequency (5000000 : ℚ) 1000 ∧
    ticksOfFrequency (5000000 : ℚ) 1000 ≤ 4294967295 ∧ ticksOfFrequency (5000000 : ℚ) 1000 < 65536 * 65536 := by
  refine ⟨test_selectDuty.1, test_selectDuty.2.1, by norm_num, by norm_num, ?_⟩
  rw [test_ticks.1]
  decide

theorem witness_AccuracySelectorPicksTheSmallestTap :
    selectAccuracy 4294967295 (5000000 : ℚ) 1 = .ok (.f3, 19531) ∧ (0 : ℚ) < 5000000 ∧
    ticksOfTime (5000000 : ℚ) 1 ≤ 4294967295 ∧ ticksOfTime (5000000 : ℚ) 1 < 65536 * 65536 := by
  refine ⟨test_selectAccuracy.2.2, by norm_num, ?_⟩
  rw [test_ticks.2.2.2.1]
  decide

theorem witness_SelectorRejections :
    ((0 : ℚ) ≤ 0 ∧ (-5 : ℚ) ≤ 0) ∧ (0 : ℚ) < 5000000 ∧ (0 : ℚ) < 1 / 1000 ∧
    4294967295 < ticksOfFrequency (5000000 : ℚ) (1 / 1000) ∧ 4294967295 < ticksOfTime (5000000 : ℚ) 859 ∧
    ((0 : ℚ) < 3000000 ∧ (0 : ℚ) < 1000000 ∧ ticksOfFrequency (1000000 : ℚ) 3000000 = 0) ∧
    (65536 * 65536 ≤ ticksOfFrequency (5000000 : ℚ) (1 / 1000) ∧ ticksOfFrequency (5000000 : ℚ) (1 / 1000) ≤ 10000000000) ∧
    (65536 * 65536 ≤ ticksOfTime (5000000 : ℚ) 860 ∧ ticksOfTime (5000000 : ℚ) 860 ≤ 10000000000) ∧
    ((0x0A29#16 : Word).extractLsb' 8 4).toNat < 11 := by
  rw [test_ticks.2.1, test_ticks.2.2.2.2.1, test_ticks.2.2.2.2.2]
  exact ⟨by norm_num, by norm_num, by norm_num, by decide, by decide, ⟨by norm_num, by norm_num, test_ticks.2.2.1⟩, by decide,
    by decide, by decide⟩

theorem witness_SelectorsAreMonotone :
    65535 ≤ 65536 ∧ (accuracyTaps 65535).head? = some .f1 ∧ (accuracyTaps 65536).head? = some .f2 := by decide

theorem witness_AccuracySelectorResolution :
    selectAccuracy 4294967295 (5000000 : ℚ) 1 = .ok (.f3, 19531) ∧ 3 ≤ ticksOfTime (5000000 : ℚ) 1 := by
  rw [test_ticks.2.2.2.1]
  exact ⟨test_selectAccuracy.2.2, by decide⟩

theorem witness_MergedDividerReadsBack : 7 < 8 ∧ 12 ≤ 12 ∧ (0 : ℚ) < 5000000 := ⟨by decide, by decide, by norm_num⟩

/-! ### The drivers' register sequences, byte by byte (95_test_vectors.md, programs P1 to P4) -/

/-- A command byte on the command port of a block at BASE = 0. -/
def cmd (b : Byte) : Access := .write8 1 b

theorem test_programMotor :
    moveLoad 3 = some 2#16 ∧ moveLoad 65534 = some 0xFFFD#16 ∧ moveLoad 65535 = none ∧ moveLoad 1 = none ∧
    (motorOpen true .c1 .c2 0x8B21#16 4#16 2#16).map (encode 0) =
      [cmd 0x01, .write16 0 0x8B21, cmd 0x09, .write16 0 4, cmd 0x41, cmd 0x02, .write16 0 2, cmd 0x0A,
        .write16 0 0xFFFF, cmd 0x42, cmd 0xE2] ∧
    (motorMove true .c1 .c2 2#16).map (encode 0) =
      [cmd 0xC1, cmd 0xC2, cmd 0xA2, cmd 0x12, .read16 0, cmd 0x0A, .write16 0 2, cmd 0x42, cmd 0x0A, .write16 0 0,
        cmd 0xEA, cmd 0x22, cmd 0x21] := by decide

theorem test_programSingleStep :
    (singleStepStart true .c1 0x8B21#16).map (encode 0) =
      [cmd 0x01, .read16 0, cmd 0x09, .read16 0, cmd 0x01, .write16 0 0x0B01, cmd 0x09, .write16 0 4, cmd 0x41, cmd 0x21] ∧
    (singleStepRestore true .c1 0x8B21#16 4#16).map (encode 0) =
      [cmd 0x01, .write16 0 0x8B21, cmd 0x09, .write16 0 4] := by decide

theorem test_programScaler :
    (scalerClear false [.c1, .c2]).map (encode 0) =
      [cmd 0xC1, cmd 0xC2, cmd 0x09, .write8 0 0, .write8 0 0, cmd 0x41, cmd 0x0A, .write8 0 0, .write8 0 0, cmd 0x42,
        cmd 0xE2, cmd 0x22, cmd 0x21] ∧
    (scalerRead false [.c1, .c2]).map (encode 0) =
      [cmd 0xC1, cmd 0xC2, cmd 0xA2, cmd 0x12, .read8 0, .read8 0, cmd 0xA1, cmd 0x11, .read8 0, .read8 0] := by decide

theorem test_programTimer :
    (timerStart true .c3 0x8B22#16 .f1 5#16).map (encode 0) =
      [cmd 0x03, .read16 0, cmd 0x03, .write16 0 0x8B22, cmd 0x0B, .write16 0 5, cmd 0x44, cmd 0x24, cmd 0xEB] ∧
    (timerStop true .c3).map (encode 0) =
      [cmd 0xC4, cmd 0xE3, cmd 0xA4, cmd 0x13, .read16 0, cmd 0x03, .read16 0] ∧
    (driverClose [.c1, .c2]).map (encode 0) = [cmd 0xC1, cmd 0xC2, cmd 0xE1, cmd 0xE2] := by decide

end Sys2Proof.Tests
end

/-! ## The data port (40_register_access.md)

The six checks of R82 one by one, what each data-port operation answers when they all pass, and the frame of the state updates it is
made of; then the statements about R84 to R87. -/

namespace Sys2Proof.Machine

/-! ### The checks of R82, in their order -/

section DataPre

variable {wide write : Bool} {s : State} {t : Target} {op : Target → Result}

theorem dataPre_wrong_width (hw : s.plat.bus16 ≠ wide) : dataPre wide write s op = .error .widthMismatch :=
  if_pos hw.symm

theorem dataPre_no_target (hw : s.plat.bus16 = wide) (hd : s.dp = none) :
    dataPre wide write s op = .error .noTarget := by
  simp [dataPre, hw, hd]

/-- The four checks left once the width fits and a register is selected. -/
theorem dataPre_of_target (hw : s.plat.bus16 = wide) (hd : s.dp = some t) :
    dataPre wide write s op =
      if s.ready = false ∧ ¬(t = .mm ∧ write = true) then .error .notBooted
      else if s.xfer = .wrHi ∧ write = false then .error .mixedTransfer
      else if s.xfer = .rdHi ∧ write = true then .error .mixedTransfer
      else if write = true ∧ Target.isHold t = true then .error .holdWrite
      else op t := by
  rw [dataPre, if_neg (not_not_intro hw.symm), hd]

/-- The boot check passes after boot, and before it for a write of MM. -/
theorem boot_check_passes (hb : s.ready = true ∨ (t = .mm ∧ write = true)) :
    ¬(s.ready = false ∧ ¬(t = .mm ∧ write = true)) := by
  rintro ⟨unready, notMm⟩
  exact notMm (hb.resolve_left (by simp [unready]))

theorem dataPre_not_booted (hw : s.plat.bus16 = wide) (hd : s.dp = some t) (hr : s.ready = false)
    (hm : ¬(t = .mm ∧ write = true)) : dataPre wide write s op = .error .notBooted := by
  rw [dataPre_of_target hw hd, if_pos ⟨hr, hm⟩]

/-- A read or a write against the direction of a half transfer. -/
theorem dataPre_mixed (hw : s.plat.bus16 = wide) (hd : s.dp = some t)
    (hb : s.ready = true ∨ (t = .mm ∧ write = true))
    (hx : (s.xfer = .wrHi ∧ write = false) ∨ (s.xfer = .rdHi ∧ write = true)) :
    dataPre wide write s op = .error .mixedTransfer := by
  rw [dataPre_of_target hw hd, if_neg (boot_check_passes hb)]
  rcases hx with readInWrite | writeInRead
  · rw [if_pos readInWrite]
  · rw [if_pos writeInRead, ite_self]

theorem dataPre_hold_write (hw : s.plat.bus16 = wide) (hd : s.dp = some t)
    (hb : s.ready = true ∨ (t = .mm ∧ write = true)) (hx : s.xfer ≠ .rdHi) (hwr : write = true)
    (hh : Target.isHold t = true) : dataPre wide write s op = .error .holdWrite := by
  rw [dataPre_of_target hw hd, if_neg (boot_check_passes hb)]
  simp [hx, hwr, hh]

/-- Where no check of R82 fails, a write runs on the selected register. -/
theorem dataPre_write (hw : s.plat.bus16 = wide) (hd : s.dp = some t) (hb : s.ready = true ∨ t = .mm)
    (hx : s.xfer ≠ .rdHi) (hh : Target.isHold t = false) : dataPre wide true s op = op t := by
  rw [dataPre_of_target hw hd, if_neg (boot_check_passes (by simpa using hb))]
  simp [hx, hh]

/-- Where no check of R82 fails, a read runs on the selected register. -/
theorem dataPre_read (hw : s.plat.bus16 = wide) (hd : s.dp = some t) (hr : s.ready = true)
    (hx : s.xfer ≠ .wrHi) : dataPre wide false s op = op t := by
  rw [dataPre_of_target hw hd, if_neg (boot_check_passes (.inl hr))]
  simp [hx]

end DataPre

/-! ### What each data-port operation answers when the checks pass -/

section Exec

variable {s : State} {t : Target}

theorem exec_dw16 (hw : s.plat.bus16 = true) (hd : s.dp = some t) (hb : s.ready = true ∨ t = .mm)
    (hx : s.xfer ≠ .rdHi) (hh : Target.isHold t = false) (w : Word) :
    exec (.dw16 w) s = .next (complete true t (s.setReg t (.known w))) :=
  congrArg outcome (dataPre_write hw hd hb hx hh)

theorem exec_dr16 (hw : s.plat.bus16 = true) (hd : s.dp = some t) (hr : s.ready = true) (hx : s.xfer ≠ .wrHi) :
    exec .dr16 s =
      .next (complete false t (s.giveBack (.data16 ((s.reg t).read (Config.freeWord s.draws))))) :=
  congrArg outcome (dataPre_read hw hd hr hx)

theorem exec_dw8_low (hw : s.plat.bus16 = false) (hd : s.dp = some t) (hb : s.ready = true ∨ t = .mm)
    (hx : s.xfer = .idle) (hh : Target.isHold t = false) (b : Byte) :
    exec (.dw8 b) s = .next ((s.setReg t ((s.reg t).writeLow b)).setXfer .wrHi) := by
  rw [exec, execDw8, dataPre_write hw hd hb (by simp [hx]) hh, if_pos hx, outcome_ok]

theorem exec_dw8_high (hw : s.plat.bus16 = false) (hd : s.dp = some t) (hb : s.ready = true ∨ t = .mm)
    (hx : s.xfer = .wrHi) (hh : Target.isHold t = false) (b : Byte) :
    exec (.dw8 b) s = .next (complete true t (s.setReg t ((s.reg t).writeHigh b))) := by
  rw [exec, execDw8, dataPre_write hw hd hb (by simp [hx]) hh, if_neg (by simp [hx]), outcome_ok]

theorem exec_dr8_low (hw : s.plat.bus16 = false) (hd : s.dp = some t) (hr : s.ready = true) (hx : s.xfer = .idle) :
    exec .dr8 s = .next ((s.giveBack (.data8 ((s.reg t).readLow (Config.freeWord s.draws)))).setXfer .rdHi) := by
  rw [exec, execDr8, dataPre_read hw hd hr (by simp [hx]), if_pos hx, outcome_ok]

theorem exec_dr8_high (hw : s.plat.bus16 = false) (hd : s.dp = some t) (hr : s.ready = true) (hx : s.xfer = .rdHi) :
    exec .dr8 s =
      .next (complete false t (s.giveBack (.data8 ((s.reg t).readHigh (Config.freeWord s.draws))))) := by
  rw [exec, execDr8, dataPre_read hw hd hr (by simp [hx]), if_neg (by simp [hx]), outcome_ok]

end Exec

/-! ### Registers under the updates of a data-port operation -/

@[simp] theorem reg_complete (w : Bool) (u t : Target) (s : State) : (complete w u s).reg t = s.reg t := by
  cases t <;> rfl

@[simp] theorem reg_setXfer (s : State) (p : Phase) (t : Target) : (s.setXfer p).reg t = s.reg t := by cases t <;> rfl

@[simp] theorem reg_giveBack (s : State) (v : Returned) (t : Target) : (s.giveBack v).reg t = s.reg t := by
  cases t <;> rfl

theorem reg_setReg_ne (s : State) {t u : Target} (h : t ≠ u) (r : Reg16) : (s.setReg u r).reg t = s.reg t := by
  rw [reg_setReg, if_neg h]

theorem setReg_hold_of_not_isHold {t : Target} (h : Target.isHold t = false) (s : State) (r : Reg16) :
    (s.setReg t r).hold = s.hold := by
  cases t with
  | hold n => cases h
  | mode n => rfl
  | load n => rfl
  | mm => rfl

/-- A completed write notes that MM was written, a completed write of another register does not (R83). -/
theorem complete_write_initMm (t : Target) (s : State) :
    (complete true t s).initMm = true ↔ s.initMm = true ∨ t = .mm := by
  simp

/-- A read of a byte whose mark is set returns that byte, whatever the free value (R89). -/
theorem readLow_of_known {r : Reg16} (h : r.knownLow = true) (free : Word) : r.readLow free = r.val.low := if_pos h

theorem readHigh_of_known {r : Reg16} (h : r.knownHigh = true) (free : Word) : r.readHigh free = r.val.high := if_pos h

end Sys2Proof.Machine

namespace Sys2Proof.Proofs

open Sys2Proof.Machine Sys2Proof.Claims

/-! ### The frame of a data-port operation -/

theorem portFrame_setReg {t : Target} (h : Target.isHold t = false) (s : State) (r : Reg16) :
    PortFrame s (s.setReg t r) := by
  constructor <;> simp [setReg_hold_of_not_isHold h]

theorem portFrame_giveBack (s : State) (v : Returned) : PortFrame s (s.giveBack v) := by constructor <;> rfl

/-- The data pointer, the byte phase and the note on MM are outside the frame, so completing keeps it. -/
theorem portFrame_complete {s u : State} (h : PortFrame s u) (w : Bool) (t : Target) : PortFrame s (complete w t u) :=
  { h with }

theorem portFrame_setXfer {s u : State} (h : PortFrame s u) (p : Phase) : PortFrame s (u.setXfer p) := { h with }

/-! ### The refusals and the encodings -/

/-- An instruction that is `DataPre` and then an operation of its own is refused as R82 says. -/
theorem portRefusals_of_dataPre {i : Instr} {wide write : Bool} {op : State → Target → Result}
    (hi : ∀ s, exec i s = outcome (dataPre wide write s (op s))) : PortRefusals i wide write := by
  intro s
  rw [hi s]
  refine ⟨fun hw => ?_, fun hw hd => ?_, fun t hw hd => ⟨fun hr hm => ?_, fun hb => ⟨fun hx hr => ?_, fun hx hr => ?_,
    fun hx hr hh => ?_⟩⟩⟩
  · rw [dataPre_wrong_width hw, outcome_error]
  · rw [dataPre_no_target hw hd, outcome_error]
  · rw [dataPre_not_booted hw hd hr hm, outcome_error]
  · rw [dataPre_mixed hw hd hb (.inl ⟨hx, hr⟩), outcome_error]
  · rw [dataPre_mixed hw hd hb (.inr ⟨hx, hr⟩), outcome_error]
  · rw [dataPre_hold_write hw hd hb hx hr hh, outcome_error]

theorem decodeAccess_write16_base (base : Nat) (w : Word) : decodeAccess base (.write16 base w) = .op (.dw16 w) :=
  if_pos rfl

theorem decodeAccess_read16_base (base : Nat) : decodeAccess base (.read16 base) = .op .dr16 := if_pos rfl

/-- The data port is not the command port. -/
theorem base_ne_command_port (base : Nat) : base ≠ base + enc.offCmd := (Nat.succ_ne_self base).symm

theorem decodeAccess_write8_base (base : Nat) (b : Byte) : decodeAccess base (.write8 base b) = .op (.dw8 b) :=
  (if_neg (base_ne_command_port base)).trans (if_pos rfl)

theorem decodeAccess_read8_base (base : Nat) : decodeAccess base (.read8 base) = .op .dr8 :=
  (if_neg (base_ne_command_port base)).trans (if_pos rfl)

/-! ### R84 to R87 -/

/-- Settles O11: the next state is the completion of the register write; its effect and frame are those of the two updates. -/
theorem dataWrite16StoresTheWord : Obligations.DataWrite16StoresTheWord := by
  refine ⟨fun w t s hw hd hb hx hh => ?_, fun w => portRefusals_of_dataPre fun _ => rfl, decodeAccess_write16_base⟩
  have others (r : Target) (hr : r ≠ t) : (complete true t (s.setReg t (.known w))).reg r = s.reg r := by
    rw [reg_complete, reg_setReg_ne s hr]
  exact ⟨_, exec_dw16 hw hd hb hx hh w, by simp, others, rfl, rfl, by simp, by simp, by simp,
    portFrame_complete (portFrame_setReg hh s _) true t⟩

/-- Settles O12: the next state is the completion of handing the value back, which touches no register. -/
theorem dataRead16ReturnsTheWord : Obligations.DataRead16ReturnsTheWord := by
  refine ⟨fun t s hw hd hr hx => ?_, portRefusals_of_dataPre fun _ => rfl, decodeAccess_read16_base⟩
  exact ⟨_, _, exec_dr16 hw hd hr hx, rfl, fun specified => read_of_specified specified _, by simp, rfl, rfl, by simp,
    portFrame_complete (portFrame_giveBack s _) false t⟩

/-- Settles O13: a write that is not in mid-read is in phase `Idle` or `WrHi`, and each phase has its own next state. -/
theorem dataWrite8WritesLowThenHigh : Obligations.DataWrite8WritesLowThenHigh := by
  refine ⟨fun b t s hw hd hb hx hh => ?_, fun b => portRefusals_of_dataPre fun _ => rfl, decodeAccess_write8_base⟩
  cases phase : s.xfer with
  | idle =>
    have others (r : Target) (hr : r ≠ t) :
        ((s.setReg t ((s.reg t).writeLow b)).setXfer .wrHi).reg r = s.reg r := by
      rw [reg_setXfer, reg_setReg_ne s hr]
    refine ⟨_, exec_dw8_low hw hd hb phase hh b, others, by simp, by simp,
      portFrame_setXfer (portFrame_setReg hh s _) .wrHi, fun _ => ?_, nofun⟩
    simp [Reg16.writeLow, hd]
  | wrHi =>
    have others (r : Target) (hr : r ≠ t) : (complete true t (s.setReg t ((s.reg t).writeHigh b))).reg r = s.reg r := by
      rw [reg_complete, reg_setReg_ne s hr]
    refine ⟨_, exec_dw8_high hw hd hb phase hh b, others, by simp, by simp,
      portFrame_complete (portFrame_setReg hh s _) true t, nofun, fun _ => ?_⟩
    simp [Reg16.writeHigh]
  | rdHi => exact absurd phase hx

/-- Settles O14: a read that is not in mid-write is in phase `Idle` or `RdHi`, and each phase has its own next state. -/
theorem dataRead8ReturnsLowThenHigh : Obligations.DataRead8ReturnsLowThenHigh := by
  refine ⟨fun t s hw hd hr hx => ?_, portRefusals_of_dataPre fun _ => rfl, decodeAccess_read8_base⟩
  cases phase : s.xfer with
  | idle =>
    exact ⟨_, _, exec_dr8_low hw hd hr phase, rfl, by simp, rfl, portFrame_setXfer (portFrame_giveBack s _) .rdHi,
      fun _ => ⟨fun known => readLow_of_known known _, hd, rfl⟩, nofun⟩
  | wrHi => exact absurd phase hx
  | rdHi =>
    exact ⟨_, _, exec_dr8_high hw hd hr phase, rfl, by simp, by simp, portFrame_complete (portFrame_giveBack s _) false t,
      nofun, fun _ => ⟨fun known => readHigh_of_known known _, rfl, rfl⟩⟩

end Sys2Proof.Proofs

/-! ## Arming and disarming (41_counter_control.md)

What a command answers under each outcome of `CmdPre` (R107), what the armed bits hold after ARM and DISARM, and what the counting
logic makes of an armed channel with a bad mode and of a disarmed channel; then the statements about R100 and R101. -/

namespace Sys2Proof.Machine

/-- Channel n is named by bit n - 1 of the mask (R62). -/
theorem names_eq_getLsbD (m : Mask) (n : Chan) : m.names n = m.getLsbD (n.num - 1) := by cases n <;> rfl

/-! ### The outcomes of CmdPre -/

theorem cmdPre_mid_transfer {s : State} (hx : s.xfer ≠ .idle) (op : Result) : cmdPre s op = .error .midTransfer :=
  if_pos hx

theorem cmdPre_not_booted {s : State} (hx : s.xfer = .idle) (hr : s.ready = false) (op : Result) :
    cmdPre s op = .error .notBooted := by
  rw [cmdPre, if_neg (not_not_intro hx), if_pos hr]

section Command

/-! A command is `CmdPre` and then an operation of its own: `hi` says so of the instruction i. -/

variable {i : Instr} {op : State → Result} (hi : ∀ s, exec i s = outcome (cmdPre s (op s)))
include hi

theorem exec_command {s : State} (hx : s.xfer = .idle) (hr : s.ready = true) : exec i s = outcome (op s) := by
  rw [hi, cmdPre_of hx hr]

theorem exec_command_mid_transfer {s : State} (hx : s.xfer ≠ .idle) : exec i s = .refused .midTransfer := by
  rw [hi, cmdPre_mid_transfer hx, outcome_error]

theorem exec_command_not_booted {s : State} (hx : s.xfer = .idle) (hr : s.ready = false) :
    exec i s = .refused .notBooted := by
  rw [hi, cmdPre_not_booted hx hr, outcome_error]

end Command

/-! ### The armed bits -/

theorem get_setNamed_true (f : PerChan Bool) (m : Mask) (n : Chan) :
    (setNamed f m fun _ => true).get n = (m.getLsbD (n.num - 1) || f.get n) := by
  rw [get_setNamed, names_eq_getLsbD]
  cases m.getLsbD (n.num - 1) <;> rfl

theorem get_setNamed_false (f : PerChan Bool) (m : Mask) (n : Chan) :
    (setNamed f m fun _ => false).get n = (!m.getLsbD (n.num - 1) && f.get n) := by
  rw [get_setNamed, names_eq_getLsbD]
  cases m.getLsbD (n.num - 1) <;> rfl

/-! ### Armed channels with a bad mode, disarmed channels -/

/-- An armed channel that fails `ModeOK` stops every count event in phase 1, whatever its source (R120). -/
theorem countEvent_bad_mode {s : State} {n : Chan} (armed : s.armed.get n = true) (bad : s.modeOK n = false)
    (active : State → Chan → Bool) : countEvent active s = .error .badMode := by
  have phase1 : s.modesOK = false := by
    rw [← Bool.not_eq_true, modesOK_iff]
    intro allOK
    simp [allOK n armed] at bad
  exact if_pos phase1

/-- The prescaler step of a clock tick changes no mode and no armed bit. -/
theorem clkTick_bad_mode {s : State} {n : Chan} (armed : s.armed.get n = true) (bad : s.modeOK n = false) :
    clkTick s = .error .badMode :=
  countEvent_bad_mode (s := { s with psc := s.psc + 1#16 }) armed bad tickActive

theorem srcEdge_bad_mode {s : State} {n : Chan} (armed : s.armed.get n = true) (bad : s.modeOK n = false) (k : Chan)
    (pol : Pol) : srcEdge k pol s = .error .badMode :=
  countEvent_bad_mode armed bad (lineActive k pol)

/-- A disarmed channel ignores every count event (R101, R124). -/
theorem count_disarmed {s : State} {n : Chan} (disarmed : s.armed.get n = false) (above : List Chan)
    (g : PerChan Bool) : count (n :: above) g s = .ok s := by
  rw [count, if_pos disarmed]

end Sys2Proof.Machine

namespace Sys2Proof.Proofs

open Sys2Proof.Machine Sys2Proof.Claims

theorem decodeCommand_arm (m : Mask) : decodeCommand (0x20#8 ||| m.setWidth 8) = some (.arm m) := by
  revert m; decide

theorem decodeCommand_disarm (m : Mask) : decodeCommand (0xC0#8 ||| m.setWidth 8) = some (.disarm m) := by
  revert m; decide

/-! ### R100 and R101 -/

/-- Settles O20: the next state differs from `s` in the armed bits alone, so a named channel is armed there and still has the mode it
had, which stops every count event. -/
theorem armSetsTheNamedChannels : Obligations.ArmSetsTheNamedChannels := by
  intro m s
  have command (s : State) :
      exec (.arm m) s = outcome (cmdPre s (.ok { s with armed := setNamed s.armed m fun _ => true })) := rfl
  refine ⟨fun hx hr => ?_, exec_command_mid_transfer command, exec_command_not_booted command, decodeCommand_arm m⟩
  refine ⟨_, exec_command command hx hr, get_setNamed_true s.armed m, rfl, fun n named bad => ?_⟩
  have armed : (setNamed s.armed m fun _ => true).get n = true := by rw [get_setNamed, if_pos named]
  exact ⟨clkTick_bad_mode armed bad, srcEdge_bad_mode armed bad⟩

/-- Settles O21: the next state differs from `s` in the armed bits alone, and there every named channel is disarmed. -/
theorem disarmClearsTheNamedChannels : Obligations.DisarmClearsTheNamedChannels := by
  intro m s
  have command (s : State) :
      exec (.disarm m) s = outcome (cmdPre s (.ok { s with armed := setNamed s.armed m fun _ => false })) := rfl
  refine ⟨fun hx hr => ?_, exec_command_mid_transfer command, exec_command_not_booted command, decodeCommand_disarm m⟩
  refine ⟨_, exec_command command hx hr, get_setNamed_false s.armed m, rfl, fun n above g named => ?_⟩
  have disarmed : (setNamed s.armed m fun _ => false).get n = false := by rw [get_setNamed, if_pos named]
  exact count_disarmed disarmed above g

end Sys2Proof.Proofs

/-! ## The encoding and the port space (30_encoding.md, 20_memory.md)

What an access to each of the two ports decodes to, whatever BASE is; the command byte of each family of rows and the converse, what a
byte that decodes to a command is made of; then the statements about the decoder and the encoder. -/

namespace Sys2Proof

/-! ### The two ports (R41) -/

@[simp] theorem decodeAccess_command (base : Nat) (b : Byte) :
    decodeAccess base (.write8 (base + enc.offCmd) b) = decodeCommandByte b := if_pos rfl

@[simp] theorem decodeAccess_status (base : Nat) : decodeAccess base (.read8 (base + enc.offCmd)) = .op .stat := if_pos rfl

@[simp] theorem decodeAccess_dataWrite8 (base : Nat) (b : Byte) :
    decodeAccess base (.write8 (base + enc.offData) b) = .op (.dw8 b) := Proofs.decodeAccess_write8_base base b

@[simp] theorem decodeAccess_dataRead8 (base : Nat) : decodeAccess base (.read8 (base + enc.offData)) = .op .dr8 :=
  Proofs.decodeAccess_read8_base base

@[simp] theorem decodeAccess_dataWrite16 (base : Nat) (w : Word) :
    decodeAccess base (.write16 (base + enc.offData) w) = .op (.dw16 w) := Proofs.decodeAccess_write16_base base w

@[simp] theorem decodeAccess_dataRead16 (base : Nat) : decodeAccess base (.read16 (base + enc.offData)) = .op .dr16 :=
  Proofs.decodeAccess_read16_base base

/-- The command port is 8 bits wide (R43). -/
@[simp] theorem decodeAccess_wideCommandWrite (base : Nat) (w : Word) :
    decodeAccess base (.write16 (base + enc.offCmd) w) = .reject .widthMismatch :=
  if_neg (Proofs.base_ne_command_port base).symm

@[simp] theorem decodeAccess_wideCommandRead (base : Nat) :
    decodeAccess base (.read16 (base + enc.offCmd)) = .reject .widthMismatch :=
  if_neg (Proofs.base_ne_command_port base).symm

theorem decodeCommandByte_eq_op {b : Byte} {i : Instr} : decodeCommandByte b = .op i ↔ decodeCommand b = some i := by
  rw [decodeCommandByte]
  cases decodeCommand b <;> simp

/-! ### The access of a family of rows -/

theorem encode_select (base : Nat) (t : Target) :
    encode base (Instr.select t) = .write8 (base + enc.offCmd) (selectByte t) := by
  cases t with
  | mm => rfl
  | mode n => cases n <;> rfl
  | load n => cases n <;> rfl
  | hold n => cases n <;> rfl

theorem encode_setTc (base : Nat) (n : Chan) :
    encode base (Instr.setTc n) = .write8 (base + enc.offCmd) (byteCN enc.opSetTc n) := by cases n <;> rfl

theorem encode_clearTc (base : Nat) (n : Chan) :
    encode base (Instr.clearTc n) = .write8 (base + enc.offCmd) (byteCN enc.opClearTc n) := by cases n <;> rfl

/-! ### Decoding the command byte of each format (R61 to R64) -/

theorem decodeCommand_selectByte (t : Target) : decodeCommand (selectByte t) = some (Instr.select t) := by
  cases t with
  | mm => decide
  | mode n => cases n <;> decide
  | load n => cases n <;> decide
  | hold n => cases n <;> decide

theorem decodeCommand_armByte (m : Mask) : decodeCommand (byteCM enc.opArm m) = some (.arm m) := by
  revert m; decide

theorem decodeCommand_loadByte (m : Mask) : decodeCommand (byteCM enc.opLoad m) = some (.load m) := by
  revert m; decide

theorem decodeCommand_saveByte (m : Mask) : decodeCommand (byteCM enc.opSave m) = some (.save m) := by
  revert m; decide

theorem decodeCommand_disarmByte (m : Mask) : decodeCommand (byteCM enc.opDisarm m) = some (.disarm m) := by
  revert m; decide

theorem decodeCommand_setTcByte (n : Chan) : decodeCommand (byteCN enc.opSetTc n) = some (Instr.setTc n) := by
  cases n <;> decide

theorem decodeCommand_clearTcByte (n : Chan) : decodeCommand (byteCN enc.opClearTc n) = some (Instr.clearTc n) := by
  cases n <;> decide

/-! ### The fields a command byte is made of -/

theorem byteCS_fields (b : Byte) (h : cmdOp3 b = enc.opSelect) : byteCS (cmdE b) (cmdG b) = b := by
  revert b; decide

theorem byteCM_fields (b : Byte) : byteCM (cmdOp3 b) (cmdS b) = b := by
  revert b; decide

theorem Chan.ofCode_eq_some {g : BitVec 3} {n : Chan} : Chan.ofCode g = some n ↔ g = n.code := by
  cases n <;> revert g <;> decide

theorem byteCN_fields {b : Byte} {n : Chan} (h : Chan.ofCode (cmdG b) = some n) : byteCN (cmdOp5 b) n = b := by
  have fields (b : Byte) : (cmdOp5 b ++ cmdG b : BitVec (5 + 3)) = b := by revert b; decide
  rw [byteCN, ← Chan.ofCode_eq_some.mp h]
  exact fields b

/-- The target of an element code and a channel is selected by that code and that channel (R61). -/
theorem selectByte_elementTarget {e : BitVec 2} {n : Chan} {t : Target} (h : elementTarget e n = some t) :
    selectByte t = byteCS e n.code := by
  unfold elementTarget at h
  split at h
  · cases h; rename_i he; rw [he]; rfl
  · split at h
    · cases h; rename_i he; rw [he]; rfl
    · split at h
      · cases h; rename_i he; rw [he]; rfl
      · cases h

/-- A byte that decodes as a SELECT is the command byte of that SELECT. -/
theorem decodeSelect_eq_some {b : Byte} {i : Instr} (op : cmdOp3 b = enc.opSelect) (h : decodeSelect b = some i) :
    ∃ t, i = Instr.select t ∧ selectByte t = b := by
  unfold decodeSelect at h
  split at h
  · rename_i n hn
    obtain ⟨t, ht, rfl⟩ := Option.map_eq_some_iff.mp h
    refine ⟨t, rfl, ?_⟩
    rw [selectByte_elementTarget ht, ← Chan.ofCode_eq_some.mp hn, byteCS_fields b op]
  · split at h
    · rename_i hmm
      cases h
      refine ⟨.mm, rfl, ?_⟩
      rw [selectByte, ← hmm.1, ← hmm.2, byteCS_fields b op]
    · cases h

/-- A byte that decodes to a command is the byte the encoder writes for it, branch by branch of R71. -/
theorem encode_of_decodeCommand (base : Nat) {b : Byte} {i : Instr} (h : decodeCommand b = some i) :
    encode base i = .write8 (base + enc.offCmd) b := by
  have mask {op : BitVec 3} (hop : cmdOp3 b = op) : byteCM op (cmdS b) = b := hop ▸ byteCM_fields b
  unfold decodeCommand at h
  split at h
  · rename_i hb
    cases h
    rw [hb]; rfl
  split at h
  · rename_i hop
    obtain ⟨t, rfl, ht⟩ := decodeSelect_eq_some hop h
    rw [encode_select, ht]
  split at h
  · cases h; rw [encode, mask ‹_›]
  split at h
  · cases h; rw [encode, mask ‹_›]
  split at h
  · cases h; rw [encode, mask ‹_›]
  split at h
  · cases h; rw [encode, mask ‹_›]
  split at h
  · rename_i hop
    obtain ⟨n, hn, rfl⟩ := Option.map_eq_some_iff.mp h
    rw [encode_clearTc, ← hop, byteCN_fields hn]
  split at h
  · rename_i hop
    obtain ⟨n, hn, rfl⟩ := Option.map_eq_some_iff.mp h
    rw [encode_setTc, ← hop, byteCN_fields hn]
  · cases h

/-- An opcode-table word means the same at every BASE (log entry 10). -/
theorem decodeAccess_accessOfWord (base nbits w : Nat) :
    decodeAccess base (accessOfWord base nbits w) = decodeAccess 0 (accessOfWord 0 nbits w) := by
  unfold accessOfWord
  split
  · simp only [decodeAccess_command]
  · simp only [decodeAccess_dataWrite16]
  · split
    · simp only [decodeAccess_command]
    · simp only [decodeAccess_dataWrite16]
    · simp only [decodeAccess_dataRead16]
    · simp only [decodeAccess_dataWrite8]
    · simp only [decodeAccess_dataRead8]
    · simp only [decodeAccess_status]
    · simp only [decodeAccess_wideCommandRead]
  · simp only [decodeAccess_wideCommandRead]

theorem decodeTableWord_eq_some {nbits w : Nat} {i : Instr} :
    decodeTableWord nbits w = some i ↔ ∀ base, decodeAccess base (accessOfWord base nbits w) = .op i := by
  simp only [decodeAccess_accessOfWord, forall_const]
  rw [decodeTableWord]
  split <;> simp_all

end Sys2Proof

namespace Sys2Proof.Proofs

/-- Settles O3: family by family, the port of the access and, for a command, the fields of its byte lead back to the row. -/
theorem decodeOfEncodeIsTheInstruction : Obligations.DecodeOfEncodeIsTheInstruction := by
  intro base i
  have command {b : Byte} {i : Instr} (h : decodeCommand b = some i) :
      decodeAccess base (.write8 (base + enc.offCmd) b) = .op i := by
    rw [decodeAccess_command, decodeCommandByte_eq_op.mpr h]
  rcases Machine.instr_cases i with ⟨t, rfl⟩ | ⟨n, rfl⟩ | ⟨n, rfl⟩ | ⟨m, rfl⟩ | ⟨m, rfl⟩ | ⟨m, rfl⟩ | ⟨m, rfl⟩ | rfl |
    ⟨v, rfl⟩ | rfl | ⟨b, rfl⟩ | rfl | rfl
  · rw [encode_select, command (decodeCommand_selectByte t)]
  · rw [encode_setTc, command (decodeCommand_setTcByte n)]
  · rw [encode_clearTc, command (decodeCommand_clearTcByte n)]
  · exact command (decodeCommand_armByte m)
  · exact command (decodeCommand_loadByte m)
  · exact command (decodeCommand_saveByte m)
  · exact command (decodeCommand_disarmByte m)
  · exact command (b := enc.byteReset) rfl
  · exact decodeAccess_dataWrite16 base v
  · exact decodeAccess_dataRead16 base
  · exact decodeAccess_dataWrite8 base b
  · exact decodeAccess_dataRead8 base
  · exact decodeAccess_status base

/-- Settles O4: an access that is not rejected is at one of the two ports, and there the row that answers it names its access. -/
theorem encodeOfDecodeIsTheAccess : Obligations.EncodeOfDecodeIsTheAccess := by
  intro base a i h
  cases a with
  | write8 p b =>
    simp only [decodeAccess] at h
    split at h
    · rename_i hp
      rw [hp, encode_of_decodeCommand base (decodeCommandByte_eq_op.mp h)]
    · split at h
      · rename_i hp; cases h; rw [hp, encode]
      · cases h
  | write16 p w =>
    simp only [decodeAccess] at h
    split at h
    · rename_i hp; cases h; rw [hp, encode]
    · cases h
  | read8 p =>
    simp only [decodeAccess] at h
    split at h
    · rename_i hp; cases h; rw [hp, encode]
    · split at h
      · rename_i hp; cases h; rw [hp, encode]
      · cases h
  | read16 p =>
    simp only [decodeAccess] at h
    split at h
    · rename_i hp; cases h; rw [hp, encode]
    · cases h

/-- Settles O1: each byte is the command byte its format builds from the operands, or has a field no row uses. -/
theorem sampleBytesDecode : Obligations.SampleBytesDecode := by
  unfold Obligations.SampleBytesDecode
  exact ⟨decodeCommand_selectByte (.load .c3), decodeCommand_selectByte (.mode .c1), decodeCommand_selectByte (.hold .c3),
    decodeCommand_selectByte .mm, decodeCommand_armByte 0b00100#5, decodeCommand_loadByte 0b11111#5,
    decodeCommand_saveByte 0b00010#5, decodeCommand_disarmByte 0b00101#5, decodeCommand_clearTcByte .c3,
    decodeCommand_setTcByte .c3, rfl, rfl, rfl, rfl, rfl⟩

/-- Settles O2, byte by byte: the opcode map is a table of 256 bytes. -/
theorem reservedBytesAreTheListedOnes : Obligations.ReservedBytesAreTheListedOnes := by
  unfold Obligations.ReservedBytesAreTheListedOnes
  decide

end Sys2Proof.Proofs

/-! ## One step, and what a host operation answers (00_scope.md section 5, 40_register_access.md, 41_counter_control.md)

What a step makes of each kind of next input; the converse of `exec_effect`: where an effect's conditions hold, the operation has that
effect; what LOAD leaves in the counters; then the statements about steps, SELECT, status, LOAD, SAVE, the forced outputs and RESET. -/

namespace Sys2Proof.Machine

/-! ### A step, by the next input of the schedule (R8) -/

theorem step_empty {s : State} (hs : s.schedule = []) : step s = outcome (clkTick s) := by
  rw [step, hs, stepClkTick]

theorem step_host_op {s : State} {a : Access} {rest : List Input} {i : Instr} (hs : s.schedule = .host a :: rest)
    (ha : decodeAccess s.plat.base a = .op i) : step s = exec i { s with schedule := rest } := by
  rw [step, hs]
  simp only [ha]

theorem step_host_reject {s : State} {a : Access} {rest : List Input} {r : Reject} (hs : s.schedule = .host a :: rest)
    (ha : decodeAccess s.plat.base a = .reject r) : step s = refuseAccess r := by
  rw [step, hs]
  simp only [ha]

theorem step_clkTick {s : State} {rest : List Input} (hs : s.schedule = .clkTick :: rest) :
    step s = outcome (clkTick { s with schedule := rest }) := by
  rw [step, hs]
  rfl

theorem step_srcEdge {s : State} {rest : List Input} {k : Chan} {pol : Pol} (hs : s.schedule = .srcEdge k pol :: rest) :
    step s = outcome (srcEdge k pol { s with schedule := rest }) := by
  rw [step, hs]
  rfl

theorem step_gateSet {s : State} {rest : List Input} {k : Chan} {v : Bool} (hs : s.schedule = .gateSet k v :: rest) :
    step s = outcome (gateSet k v { s with schedule := rest }) := by
  rw [step, hs]
  rfl

/-! ### The converse of `exec_effect` -/

theorem exec_stat {s : State} (hx : s.xfer = .idle) (hr : s.ready = true) :
    exec .stat s = .next (s.giveBack (.status (s.statusByte (Config.freeWord s.draws)))) := by
  rw [exec, execStat, if_neg (not_not_intro hx), if_neg (by simp [hr]), outcome_ok]

theorem exec_load {m : Mask} {s : State} (hx : s.xfer = .idle) (hr : s.ready = true) :
    exec (.load m) s = outcome (transferAll m.chans s) := by
  rw [exec, execLoad, loadPre_of hx, if_neg (by simp [hr])]

theorem exec_dummyLoad {m : Mask} {s : State} (hx : s.xfer = .idle) (hr : s.ready = false) :
    exec (.load m) s = .next (dummyLoad m s) := by
  rw [exec, execLoad, loadPre_of hx, if_pos hr, outcome_ok]

/-- Where the conditions of an effect hold, the operation has that effect. -/
theorem exec_of_effect {i : Instr} {s u : State} (h : HostEffect s i u) : exec i s = .next u := by
  cases h with
  | select t idle boot => rw [exec_select]; exact select_eq_next.mpr ⟨idle, boot, rfl⟩
  | arm m idle ready => exact outcome_eq_next.mpr (cmdPre_eq_ok.mpr ⟨idle, ready, rfl⟩)
  | disarm m idle ready => exact outcome_eq_next.mpr (cmdPre_eq_ok.mpr ⟨idle, ready, rfl⟩)
  | save m idle ready => exact outcome_eq_next.mpr (cmdPre_eq_ok.mpr ⟨idle, ready, rfl⟩)
  | dummyLoad m idle unready => exact exec_dummyLoad idle unready
  | load m u idle ready done => rw [exec_load idle ready, done, outcome_ok]
  | setTc n idle ready => rw [exec_setTc]; exact forceOutput_eq_next.mpr ⟨idle, ready, rfl⟩
  | clearTc n idle ready => rw [exec_clearTc]; exact forceOutput_eq_next.mpr ⟨idle, ready, rfl⟩
  | reset => rfl
  | write16 v t wide dp boot phase writable => exact exec_dw16 wide dp boot phase writable v
  | read16 t wide dp ready phase => exact exec_dr16 wide dp ready phase
  | writeLow b t wide dp boot phase writable => exact exec_dw8_low wide dp boot phase writable b
  | writeHigh b t wide dp boot phase writable => exact exec_dw8_high wide dp boot phase writable b
  | readLow t wide dp ready phase => exact exec_dr8_low wide dp ready phase
  | readHigh t wide dp ready phase => exact exec_dr8_high wide dp ready phase
  | stat idle ready => exact exec_stat idle ready

/-! ### Transfers (R126) -/

open Claims (Loadable)

theorem smallLoad_eq_true {up tapped : Bool} {v : Word} :
    smallLoad up tapped v = true ↔ up = false ∧ tapped = true ∧ (v = 1#16 ∨ v = 2#16) := by
  simp [smallLoad, and_assoc]

theorem smallLoad_eq_false {up tapped : Bool} {v : Word} :
    smallLoad up tapped v = false ↔ up = true ∨ tapped = false ∨ (v ≠ 1#16 ∧ v ≠ 2#16) := by
  rw [← Bool.not_eq_true, smallLoad_eq_true]
  cases up <;> cases tapped <;> simp

theorem tapped_eq_false {s : State} {n : Chan} : s.tapped n = false ↔ ((s.modeVal n).extractLsb' 8 4).toNat < 11 := by
  rw [← Bool.not_eq_true, tapped_iff, not_le]

theorem loadable_iff {s : State} {n : Chan} :
    Loadable s n ↔ (s.mode.get n).specified = true ∧ (s.load.get n).specified = true ∧
      smallLoad (modeUp (s.modeVal n)) (s.tapped n) (s.load.get n).val = false := by
  rw [smallLoad_eq_false, tapped_eq_false, modeUp_def]
  exact ⟨fun h => ⟨h.mode, h.load, h.fits⟩, fun h => ⟨h.1, h.2.1, h.2.2⟩⟩

/-- The state a transfer into channel n leaves. -/
def transferred (n : Chan) (s : State) : State :=
  s.setCnt n (.known (transferValue (modeUp (s.modeVal n)) (s.load.get n).val))

theorem transfer_of_loadable {s : State} {n : Chan} (h : Loadable s n) : transfer n s = .ok (transferred n s) := by
  obtain ⟨mode, load, fits⟩ := loadable_iff.mp h
  exact transfer_eq_ok.mpr ⟨mode, load, fits, rfl⟩

theorem transfer_unspecifiedMode {s : State} {n : Chan} (mode : (s.mode.get n).specified = false) :
    transfer n s = .error .unspecifiedMode := if_pos mode

theorem transfer_unspecifiedLoad {s : State} {n : Chan} (mode : (s.mode.get n).specified = true)
    (load : (s.load.get n).specified = false) : transfer n s = .error .unspecifiedLoad := by
  rw [transfer, if_neg (by simp [mode]), if_pos load]

theorem transfer_smallLoad {s : State} {n : Chan} (mode : (s.mode.get n).specified = true)
    (load : (s.load.get n).specified = true) (up : (s.modeVal n).getLsbD 3 = false)
    (tap : 11 ≤ ((s.modeVal n).extractLsb' 8 4).toNat) (small : (s.load.get n).val = 1#16 ∨ (s.load.get n).val = 2#16) :
    transfer n s = .error .smallLoad := by
  have refused : smallLoad (modeUp (s.modeVal n)) (s.tapped n) (s.load.get n).val = true :=
    smallLoad_eq_true.mpr ⟨up, (tapped_iff s n).mpr tap, small⟩
  rw [transfer, if_neg (by simp [mode]), if_neg (by simp [load]), if_pos refused]

/-- A refused transfer has one of three reasons (R126). -/
theorem transfer_error_of_not_loadable {s : State} {n : Chan} (h : ¬Loadable s n) :
    ∃ r, transfer n s = .error r ∧ (r = .unspecifiedMode ∨ r = .unspecifiedLoad ∨ r = .smallLoad) := by
  rw [loadable_iff] at h
  unfold transfer
  split
  · exact ⟨_, rfl, .inl rfl⟩
  · split
    · exact ⟨_, rfl, .inr (.inl rfl)⟩
    · split
      · exact ⟨_, rfl, .inr (.inr rfl)⟩
      · simp_all

/-- A transfer reads the mode and the load register alone, so what is in the counters does not decide whether it is refused. -/
theorem loadable_transferred {s : State} {n m : Chan} : Loadable (transferred m s) n ↔ Loadable s n :=
  ⟨fun h => ⟨h.mode, h.load, h.fits⟩, fun h => ⟨h.mode, h.load, h.fits⟩⟩

theorem transfer_transferred_error {s : State} {n m : Chan} {r : Refusal} (h : transfer n s = .error r) :
    transfer n (transferred m s) = .error r := by
  unfold transfer at h
  split at h
  · rename_i mode
    cases h
    exact if_pos mode
  · split at h
    · rename_i mode load
      cases h
      exact (if_neg mode).trans (if_pos load)
    · split at h
      · rename_i mode load small
        cases h
        exact (if_neg mode).trans ((if_neg load).trans (if_pos small))
      · cases h

/-- The channels of a mask come lowest number first (R107). -/
theorem chans_sorted (m : Mask) : m.chans.Pairwise fun a b => a.num < b.num :=
  List.Pairwise.filter _ (by decide)

/-- A list of loadable channels: each takes its own load register, and the other counters stay. -/
theorem transferAll_of_loadable : ∀ (l : List Chan) (s : State), (∀ n ∈ l, Loadable s n) →
    ∃ u, transferAll l s = .ok u ∧ u = { s with cnt := u.cnt } ∧
      (∀ n ∈ l, u.cnt.get n = .known (transferValue (modeUp (s.modeVal n)) (s.load.get n).val)) ∧
      ∀ n, n ∉ l → u.cnt.get n = s.cnt.get n
  | [], s, _ => ⟨s, rfl, rfl, by simp, by simp⟩
  | m :: rest, s, h => by
    obtain ⟨u, hu, frame, named, others⟩ := transferAll_of_loadable rest (transferred m s) fun n hn =>
      loadable_transferred.mpr (h n (List.mem_cons_of_mem m hn))
    refine ⟨u, ?_, frame, fun n hn => ?_, fun n hn => ?_⟩
    · rw [transferAll, transfer_of_loadable (h m List.mem_cons_self)]
      exact hu
    · by_cases hr : n ∈ rest
      · exact named n hr
      · obtain rfl : n = m := by simpa [hr] using hn
        rw [others n hr, transferred, setCnt_cnt, PerChan.get_set_same]
    · rw [List.mem_cons, not_or] at hn
      rw [others n hn.2, transferred, setCnt_cnt, PerChan.get_set_ne _ hn.1]

/-- The first refused transfer of a list refuses the whole list, for its own reason (log entry 16). -/
theorem transferAll_error {pre post : List Chan} {n : Chan} {r : Refusal} {s : State} (hpre : ∀ m ∈ pre, Loadable s m)
    (hn : transfer n s = .error r) : transferAll (pre ++ n :: post) s = .error r := by
  induction pre generalizing s with
  | nil => rw [List.nil_append, transferAll, hn]
  | cons m pre ih =>
    rw [List.cons_append, transferAll, transfer_of_loadable (hpre m List.mem_cons_self)]
    exact ih (fun j hj => loadable_transferred.mpr (hpre j (List.mem_cons_of_mem m hj))) (transfer_transferred_error hn)

/-- A list with a channel that cannot be loaded is refused, for one of the three reasons. -/
theorem transferAll_error_of_not_loadable {l : List Chan} {n : Chan} {s : State} (mem : n ∈ l) (h : ¬Loadable s n) :
    ∃ r, transferAll l s = .error r ∧ (r = .unspecifiedMode ∨ r = .unspecifiedLoad ∨ r = .smallLoad) := by
  induction l generalizing s with
  | nil => cases mem
  | cons m rest ih =>
    by_cases hm : Loadable s m
    · have hne : n ≠ m := fun e => h (e ▸ hm)
      rw [transferAll, transfer_of_loadable hm]
      exact ih ((List.mem_cons.mp mem).resolve_left hne) (mt loadable_transferred.mp h)
    · obtain ⟨r, hr, reason⟩ := transfer_error_of_not_loadable hm
      exact ⟨r, by rw [transferAll, hr], reason⟩

/-! ### SELECT and the status read where they are refused (R80, R90) -/

theorem select_mid_transfer {t : Target} {s : State} (hx : s.xfer ≠ .idle) : select t s = .refused .midTransfer := by
  rw [select, if_pos hx, outcome_error]

theorem select_not_booted {t : Target} {s : State} (hx : s.xfer = .idle) (hr : s.ready = false)
    (ht : ¬(t = .mm ∧ s.initLd = allChannels)) : select t s = .refused .notBooted := by
  rw [select, if_neg (not_not_intro hx), if_pos ⟨hr, ht⟩, outcome_error]

/-! ### Output lines (R27) -/

theorem ocOK_iff {mode : Reg16} :
    ocOK mode = true ↔ mode.specified = true ∧
      (modeOC mode.val = 0b000#3 ∨ modeOC mode.val = 0b001#3 ∨ modeOC mode.val = 0b010#3) := by
  rw [ocOK, Bool.and_eq_true, ocLegal_iff]

theorem outLevel_unspecified {mode : Reg16} {latch : Latch} (h : ocOK mode = false) : outLevel mode latch = none := if_pos h

theorem outLevel_toggle {mode : Reg16} {latch : Latch} (hs : mode.specified = true) (h : modeOC mode.val = 0b010#3) :
    outLevel mode latch = if latch.known then some latch.level else none := by
  rw [outLevel_of_ocOK (ocOK_iff.mpr ⟨hs, .inr (.inr h)⟩)]
  exact if_pos h

/-- An inactive and a pulse output are low (R27). -/
theorem outLevel_low {mode : Reg16} {latch : Latch} (hs : mode.specified = true)
    (h : modeOC mode.val = 0b000#3 ∨ modeOC mode.val = 0b001#3) : outLevel mode latch = some false := by
  rw [outLevel_of_ocOK (ocOK_iff.mpr ⟨hs, h.imp_right .inl⟩)]
  refine if_neg fun toggle => ?_
  rcases h with h | h <;> rw [h] at toggle <;> exact absurd toggle (by decide)

/-- The five codes of OC from 3 on are reserved (R21). -/
theorem ocOK_reserved {mode : Reg16} (h : 3 ≤ (modeOC mode.val).toNat) : ocOK mode = false := by
  rw [← Bool.not_eq_true, ocOK_iff]
  rintro ⟨-, hc | hc | hc⟩ <;> rw [hc] at h <;> exact absurd h (by decide)

theorem ocOK_unspecified {mode : Reg16} (h : mode.specified = false) : ocOK mode = false := by
  simp [ocOK, h]

/-! ### RESET (R35, R106) -/

theorem reg_resetState (s : State) (t : Target) : ∃ k, (resetState s).reg t = freeReg k := by
  cases t with
  | mm => exact ⟨_, rfl⟩
  | mode n => exact ⟨_, PerChan.get_build _ n⟩
  | load n => exact ⟨_, PerChan.get_build _ n⟩
  | hold n => exact ⟨_, PerChan.get_build _ n⟩

theorem resetState_disarmed (s : State) (n : Chan) : (resetState s).armed.get n = false := PerChan.get_build _ n

theorem resetState_cnt (s : State) (n : Chan) : (resetState s).cnt.get n = freeReg (s.draws + n.idx) :=
  PerChan.get_build _ n

theorem resetState_tgl (s : State) (n : Chan) : (resetState s).tgl.get n = freeLatch (s.draws + 20 + n.idx) :=
  PerChan.get_build _ n

end Sys2Proof.Machine

namespace Sys2Proof.Proofs

open Sys2Proof.Machine Sys2Proof.Claims

/-! ### Steps -/

/-- Settles O5: `step` takes the access off the schedule, decodes it and runs the instruction. -/
theorem stepRunsTheDecodedInstruction : Obligations.StepRunsTheDecodedInstruction :=
  fun _ _ _ _ hs ha => step_host_op hs ha

/-- Settles O6: the four kinds of next input that are no access. -/
theorem stepMakesTheEnvironmentStep : Obligations.StepMakesTheEnvironmentStep :=
  fun _ _ => ⟨step_empty, step_clkTick, fun _ _ => step_srcEdge, fun _ _ => step_gateSet⟩

/-- Settles O7: a table word decodes alike at every BASE, and taking the placed input off again gives the state it was placed in. -/
theorem placedTableWordRunsNext : Obligations.PlacedTableWordRunsNext :=
  fun s _ _ _ h => step_host_op (s := s.withFetchWord _ _) rfl (decodeTableWord_eq_some.mp h s.plat.base)

/-- Settles O8: the decoder rejects each of these accesses, and a rejected access is refused in every state. -/
theorem nonOperationsAreRefused : Obligations.NonOperationsAreRefused := by
  intro s rest p b w
  refine ⟨fun hs hb => ?_, fun hs => ?_, fun hs => ?_, fun hdata hcmd => ⟨fun hs => ?_, fun hs => ?_, fun hs => ?_,
    fun hs => ?_⟩⟩
  · have reserved : decodeCommandByte b = .reject .reservedCommand := by rw [decodeCommandByte, hb]
    exact step_host_reject hs ((decodeAccess_command _ b).trans reserved)
  · exact step_host_reject hs (decodeAccess_wideCommandWrite _ w)
  · exact step_host_reject hs (decodeAccess_wideCommandRead _)
  · exact step_host_reject hs ((if_neg hcmd).trans (if_neg hdata))
  · exact step_host_reject hs (if_neg hdata)
  · exact step_host_reject hs ((if_neg hcmd).trans (if_neg hdata))
  · exact step_host_reject hs (if_neg hdata)

/-! ### SELECT -/

/-- Settles O9: the conditions are those of the one effect a SELECT has. -/
theorem selectSetsTheDataPointer : Obligations.SelectSetsTheDataPointer :=
  fun t _ idle boot => exec_of_effect (.select t idle boot)

/-- Settles O10: the two checks of R80, in their order. -/
theorem selectRefusals : Obligations.SelectRefusals := by
  intro t s
  rw [exec_select]
  exact ⟨select_mid_transfer, select_not_booted⟩

/-! ### Status and output lines -/

/-- Settles O15: bit n of the status byte is output line n wherever that has a level. -/
theorem statusReadShowsTheOutputLines : Obligations.StatusReadShowsTheOutputLines := by
  intro s idle ready
  refine ⟨_, _, exec_of_effect (.stat idle ready), rfl, fun n v hv => ?_, rfl⟩
  rw [statusByte_bit, hv, Option.getD_some]

/-- Settles O16: a status read makes the checks of `CmdPre`. -/
theorem statusReadRefusals : Obligations.StatusReadRefusals := by
  intro s
  have status (s : State) :
      exec .stat s = outcome (cmdPre s (.ok (s.giveBack (.status (s.statusByte (Config.freeWord s.draws)))))) := rfl
  exact ⟨exec_command_mid_transfer status, exec_command_not_booted status⟩

/-- Settles O17, code by code of the output control field. -/
theorem outputLineFollowsTheMode : Obligations.OutputLineFollowsTheMode := by
  intro s n
  refine ⟨fun hs oc known => ?_, fun hs oc unknown => ?_, fun hs oc => ?_, fun hs oc => ?_, fun _ oc => ?_, fun hs => ?_⟩
  · rw [State.outLine, outLevel_toggle hs oc, if_pos known]
  · rw [State.outLine, outLevel_toggle hs oc, if_neg (by simp [unknown])]
  · exact outLevel_low hs (.inl oc)
  · exact outLevel_low hs (.inr oc)
  · exact outLevel_unspecified (ocOK_reserved oc)
  · exact outLevel_unspecified (ocOK_unspecified hs)

/-! ### LOAD -/

/-- Settles O22: the hypothesis says that every named channel is loadable. -/
theorem loadCopiesTheLoadRegisters : Obligations.LoadCopiesTheLoadRegisters := by
  intro m s idle ready named
  obtain ⟨u, done, frame, loaded, others⟩ := transferAll_of_loadable m.chans s fun n hn =>
    have ⟨mode, load, fits⟩ := named n ((Mask.mem_chans m n).mp hn)
    ⟨mode, load, fits⟩
  refine ⟨u, exec_of_effect (.load m u idle ready done), fun n hn => ?_, fun n hn => others n ?_, frame⟩
  · rw [loaded n ((Mask.mem_chans m n).mpr hn)]
    rfl
  · rw [Mask.mem_chans, hn]
    exact Bool.false_ne_true

/-- Settles O23: the named counters hold free values behind false marks. -/
theorem dummyLoadNotesTheChannels : Obligations.DummyLoadNotesTheChannels := by
  intro m s idle unready
  refine ⟨_, exec_of_effect (.dummyLoad m idle unready), rfl, fun n hn => ?_, fun n hn => ?_, rfl⟩
  · rw [dummyLoad, get_setNamed, if_pos hn]
    rfl
  · rw [dummyLoad, get_setNamed, if_neg (by simp [hn])]

/-- Settles O24: channels are loaded lowest first, so the channels before n in the list of named channels are the lower ones, and
where those are loadable the refusal of n's transfer is the refusal of the LOAD. -/
theorem loadRefusals : Obligations.LoadRefusals := by
  intro n m s
  refine ⟨fun mid => ?_, fun idle ready named => ?_⟩
  · rw [exec, execLoad, loadPre, if_pos mid, outcome_error]
  · rw [exec_load idle ready]
    have mem : n ∈ m.chans := (Mask.mem_chans m n).mpr named
    refine ⟨fun unloadable => ?_, fun lower => ?_⟩
    · obtain ⟨r, hr, reason⟩ := transferAll_error_of_not_loadable mem unloadable
      exact ⟨r, by rw [hr, outcome_error], reason⟩
    · obtain ⟨pre, post, split⟩ := List.append_of_mem mem
      have loadable (j : Chan) (hj : j ∈ pre) : Loadable s j := by
        have sorted := chans_sorted m
        rw [split, List.pairwise_append] at sorted
        refine lower j ((Mask.mem_chans m j).mp ?_) (sorted.2.2 j hj n List.mem_cons_self)
        rw [split]
        exact List.mem_append_left _ hj
      have refused {r : Refusal} (h : transfer n s = .error r) : outcome (transferAll m.chans s) = .refused r := by
        rw [split, transferAll_error loadable h, outcome_error]
      exact ⟨fun mode => refused (transfer_unspecifiedMode mode),
        fun mode load => refused (transfer_unspecifiedLoad mode load),
        fun mode load up tap small => refused (transfer_smallLoad mode load up tap small)⟩

/-! ### SAVE, SET_TC, CLEAR_TC, RESET and mask 0 -/

/-- Settles O25: SAVE is `CmdPre` and then one write of the named hold registers. -/
theorem saveCopiesTheCounters : Obligations.SaveCopiesTheCounters := by
  intro m s
  have command (s : State) :
      exec (.save m) s = outcome (cmdPre s (.ok { s with hold := setNamed s.hold m fun n => s.cnt.get n })) := rfl
  refine ⟨fun idle ready => ⟨_, exec_of_effect (.save m idle ready), fun n => ?_, rfl⟩,
    exec_command_mid_transfer command, exec_command_not_booted command⟩
  rw [get_setNamed, names_eq_getLsbD]

/-- Settles O26: both are `CmdPre` and then one write of the latch. -/
theorem forcedOutputSetsTheLatch : Obligations.ForcedOutputSetsTheLatch := by
  intro n s
  have set : ∀ s, exec (Instr.setTc n) s = outcome (cmdPre s (.ok (s.setTgl n (.is true)))) := exec_setTc n
  have clear : ∀ s, exec (Instr.clearTc n) s = outcome (cmdPre s (.ok (s.setTgl n (.is false)))) := exec_clearTc n
  exact ⟨fun idle ready => ⟨exec_of_effect (.setTc n idle ready), exec_of_effect (.clearTc n idle ready)⟩,
    fun mid => ⟨exec_command_mid_transfer set mid, exec_command_mid_transfer clear mid⟩,
    fun idle unready => ⟨exec_command_not_booted set idle unready, exec_command_not_booted clear idle unready⟩⟩

/-- Settles O27: every register, counter and latch holds a free value behind false marks. -/
theorem resetLeavesTheResetValues : Obligations.ResetLeavesTheResetValues := by
  intro s
  refine ⟨resetState s, rfl, resetState_disarmed s, rfl, rfl, rfl, rfl, rfl, rfl, rfl, fun t => ?_, fun n => ?_, rfl, rfl,
    rfl⟩
  · obtain ⟨k, hk⟩ := reg_resetState s t
    rw [hk]
    exact ⟨rfl, rfl⟩
  · rw [resetState_cnt, resetState_tgl]
    exact ⟨rfl, rfl, rfl⟩

/-- Settles O28: a mask of zero names no channel, so nothing is written for it. -/
theorem maskZeroChangesNothing : Obligations.MaskZeroChangesNothing := by
  intro s idle
  refine ⟨?_, fun ready => ⟨?_, ?_, ?_⟩⟩
  · cases ready : s.ready with
    | true => rw [exec_load idle ready]; rfl
    | false => rw [exec_dummyLoad idle ready, dummyLoad, setNamed_zero, BitVec.or_zero, if_pos rfl]
  · rw [exec_of_effect (.arm 0#5 idle ready), setNamed_zero]
  · rw [exec_of_effect (.disarm 0#5 idle ready), setNamed_zero]
  · rw [exec_of_effect (.save 0#5 idle ready), setNamed_zero]

end Sys2Proof.Proofs

/-! ## Counting, channel by channel (42_counting.md sections 1, 4, 5 and 6)

A count that reaches channel n is one `Count` of n alone and then, where n was at its end, a count of the cascaded channel above it. So a
count event is a list of counts of single channels, `touched`. A single count reads and writes its own channel only, and the channels
that two sources reach are disjoint, since a source is not cascaded. From this follow which channels an event counts, when it is refused,
and that the order of delivery cannot be seen. -/

namespace Sys2Proof

theorem Chan.num_injective {n m : Chan} : n.num = m.num ↔ n = m := by cases n <;> cases m <;> decide

theorem Chan.next?_ne {n m : Chan} (h : n.next? = some m) : m ≠ n := by
  rintro rfl
  have := Chan.next?_eq_some.mp h
  omega

/-- Induction from channel 5 down: a channel may use what holds of the channel above it. -/
theorem Chan.fromAbove {P : Chan → Prop} (h : ∀ n, (∀ m, n.next? = some m → P m) → P n) (n : Chan) : P n := by
  have h5 : P .c5 := h _ (by simp [Chan.next?])
  have h4 : P .c4 := h _ (by simpa [Chan.next?] using h5)
  have h3 : P .c3 := h _ (by simpa [Chan.next?] using h4)
  have h2 : P .c2 := h _ (by simpa [Chan.next?] using h3)
  have h1 : P .c1 := h _ (by simpa [Chan.next?] using h2)
  cases n <;> assumption

end Sys2Proof

namespace Sys2Proof.Machine

open Claims

/-! ### Count, case by case (R124, R127, R128) -/

/-- The count is the terminal count exactly at the last value (R127). -/
theorem atTerminal_iff {s : State} {n : Chan} {v : Word} :
    atTerminal (modeUp (s.modeVal n)) v = true ↔ v = lastCount s n := by
  rw [atTerminal, lastCount, modeUp_def]
  split <;> simp

section Count

variable {s : State} {n : Chan} {g : PerChan Bool}

theorem count_bad_mode (armed : s.armed.get n = true) (bad : s.modeOK n = false) (above : List Chan) :
    count (n :: above) g s = .error .badMode := by
  rw [count, if_neg (by simp [armed]), if_pos bad]

theorem count_gated_off (armed : s.armed.get n = true) (ok : s.modeOK n = true) (gate : g.get n = false)
    (above : List Chan) : count (n :: above) g s = .ok s := by
  rw [count, if_neg (by simp [armed]), if_neg (by simp [ok]), if_pos gate]

theorem count_unspecified (armed : s.armed.get n = true) (ok : s.modeOK n = true) (gate : g.get n = true)
    (unknown : (s.cnt.get n).specified = false) (above : List Chan) :
    count (n :: above) g s = .error .unspecifiedCount := by
  rw [count, if_neg (by simp [armed]), if_neg (by simp [ok]), if_neg (by simp [gate]), if_pos unknown]

/-- The counter of an armed, gated-on channel with a legal mode is specified: the count is taken. -/
structure Ticking (g : PerChan Bool) (s : State) (n : Chan) : Prop where
  armed : s.armed.get n = true
  ok : s.modeOK n = true
  gate : g.get n = true
  specified : (s.cnt.get n).specified = true

/-- What a terminal count that left `u` passes on: a count of the next channel of the list, if that is armed and cascaded (R125). -/
def passOn (g : PerChan Bool) : List Chan → State → Result
  | [], u => .ok u
  | m :: above, u => if u.armed.get m ∧ u.cascaded m then count (m :: above) g u else .ok u

theorem count_of_ticking (h : Ticking g s n) (above : List Chan) :
    count (n :: above) g s =
      if atTerminal (modeUp (s.modeVal n)) (s.cnt.get n).val then terminalCount n s >>= passOn g above
      else .ok (s.setCnt n (.known (stepValue (modeUp (s.modeVal n)) (s.cnt.get n).val))) := by
  rw [count, if_neg (by simp [h.armed]), if_neg (by simp [h.ok]), if_neg (by simp [h.gate]), if_neg (by simp [h.specified])]
  congr 1
  cases terminalCount n s with
  | error r => rfl
  | ok u => cases above <;> rfl

theorem count_step (h : Ticking g s n) (between : (s.cnt.get n).val ≠ lastCount s n) (above : List Chan) :
    count (n :: above) g s = .ok (s.setCnt n (.known (stepValue (modeUp (s.modeVal n)) (s.cnt.get n).val))) := by
  rw [count_of_ticking h, if_neg (mt atTerminal_iff.mp between)]

theorem count_terminal_error {r : Refusal} (h : Ticking g s n) (last : (s.cnt.get n).val = lastCount s n)
    (refused : terminalCount n s = .error r) (above : List Chan) : count (n :: above) g s = .error r := by
  rw [count_of_ticking h, if_pos (atTerminal_iff.mpr last), refused]
  rfl

theorem count_terminal {u : State} (h : Ticking g s n) (last : (s.cnt.get n).val = lastCount s n)
    (done : terminalCount n s = .ok u) (above : List Chan) : count (n :: above) g s = passOn g above u := by
  rw [count_of_ticking h, if_pos (atTerminal_iff.mpr last), done]
  rfl

end Count

/-! ### The terminal count as one update (R128) -/

/-- The state a terminal count of channel n leaves: reload, output action, and the armed bit of a one-shot channel. -/
def afterTerminal (n : Chan) (s : State) : State :=
  { s with
    cnt := s.cnt.set n (.known (transferValue (modeUp (s.modeVal n)) (s.load.get n).val))
    tgl := s.tgl.set n { s.tgl.get n with
      level := Bool.xor (s.tgl.get n).level (decide (modeOC (s.modeVal n) = enc.ocToggle)) }
    armed := s.armed.set n (modeRep (s.modeVal n) && s.armed.get n)
    history := s.history ++ if modeOC (s.modeVal n) = enc.ocPulse then [n] else [] }

theorem tcOutput_eq (n : Chan) (s : State) :
    tcOutput n s = { s with
      tgl := s.tgl.set n { s.tgl.get n with
        level := Bool.xor (s.tgl.get n).level (decide (modeOC (s.modeVal n) = enc.ocToggle)) }
      history := s.history ++ if modeOC (s.modeVal n) = enc.ocPulse then [n] else [] } := by
  unfold tcOutput
  split
  · rename_i toggle
    rw [toggle, if_neg (by decide), decide_eq_true rfl, Bool.xor_true, List.append_nil]
    rfl
  · rename_i toggle
    rw [decide_eq_false toggle, Bool.xor_false]
    split
    · exact congrArg (fun f => { s with tgl := f, history := s.history ++ [n] }) (PerChan.set_get s.tgl n).symm
    · rw [List.append_nil]
      exact congrArg (fun f => { s with tgl := f }) (PerChan.set_get s.tgl n).symm

theorem tcDisarm_eq (n : Chan) (s : State) :
    tcDisarm n s = { s with armed := s.armed.set n (modeRep (s.modeVal n) && s.armed.get n) } := by
  unfold tcDisarm
  split <;> simp [*, State.setArmed]

theorem terminalCount_of_loadable {s : State} {n : Chan} (h : Loadable s n) :
    terminalCount n s = .ok (afterTerminal n s) := by
  refine terminalCount_eq_ok.mpr ⟨_, transfer_of_loadable h, ?_⟩
  rw [tcDisarm_eq, tcOutput_eq]
  rfl

theorem terminalCount_error {s : State} {n : Chan} {r : Refusal} (h : transfer n s = .error r) :
    terminalCount n s = .error r := by
  rw [terminalCount, h]

theorem terminalCount_ok_loadable {s u : State} {n : Chan} (h : terminalCount n s = .ok u) :
    Loadable s n ∧ u = afterTerminal n s := by
  obtain ⟨v, hv, -⟩ := terminalCount_eq_ok.mp h
  obtain ⟨mode, load, fits, -⟩ := transfer_eq_ok.mp hv
  have loadable := loadable_iff.mpr ⟨mode, load, fits⟩
  rw [terminalCount_of_loadable loadable] at h
  exact ⟨loadable, (Except.ok.inj h).symm⟩

/-! ### A count of one channel -/

theorem uncounted_refl (s : State) (n : Chan) : Uncounted s s n := ⟨rfl, rfl, rfl, rfl⟩

theorem uncounted_symm {s u : State} {n : Chan} (h : Uncounted s u n) : Uncounted u s n :=
  ⟨h.cnt.symm, h.armed.symm, h.tgl.symm, h.pulses.symm⟩

theorem uncounted_trans {s u v : State} {n : Chan} (h : Uncounted s u n) (h' : Uncounted u v n) : Uncounted s v n :=
  ⟨h'.cnt.trans h.cnt, h'.armed.trans h.armed, h'.tgl.trans h.tgl, h'.pulses.trans h.pulses⟩

theorem uncounted_setCnt {n m : Chan} (hm : m ≠ n) (s : State) (r : Reg16) : Uncounted s (s.setCnt n r) m :=
  ⟨PerChan.get_set_ne _ hm _, rfl, rfl, rfl⟩

theorem uncounted_afterTerminal {n m : Chan} (hm : m ≠ n) (s : State) : Uncounted s (afterTerminal n s) m where
  cnt := PerChan.get_set_ne _ hm _
  armed := PerChan.get_set_ne _ hm _
  tgl := PerChan.get_set_ne _ hm _
  pulses := by
    rw [afterTerminal, List.count_append]
    split
    · rw [List.count_singleton, if_neg (by simpa using hm.symm), Nat.add_zero]
    · rfl

/-- One step of the counter is one count. -/
theorem countedOnce_setCnt {s : State} {n : Chan} (specified : (s.cnt.get n).specified = true)
    (between : (s.cnt.get n).val ≠ lastCount s n) :
    CountedOnce s (s.setCnt n (.known (stepValue (modeUp (s.modeVal n)) (s.cnt.get n).val))) n where
  specified := specified
  between := fun _ => ⟨PerChan.get_set_same _ _ _, rfl, rfl, rfl⟩
  terminal := fun last => absurd last between

/-- A terminal count is one count. -/
theorem countedOnce_afterTerminal {s : State} {n : Chan} (armed : s.armed.get n = true)
    (specified : (s.cnt.get n).specified = true) (last : (s.cnt.get n).val = lastCount s n) (loadable : Loadable s n) :
    CountedOnce s (afterTerminal n s) n where
  specified := specified
  between := fun between => absurd last between
  terminal := fun _ => by
    refine ⟨loadable, PerChan.get_set_same _ _ _, ?_, PerChan.get_set_same _ _ _, ?_⟩
    · rw [afterTerminal, PerChan.get_set_same, armed, Bool.and_true]
      rfl
    · rw [afterTerminal, List.count_append]
      congr 1
      exact (apply_ite (List.count n) _ _ _).trans (by rw [List.count_singleton_self, List.count_nil]; rfl)

/-- A count that reaches channel n is not refused (R124, R126). -/
structure Takes (g : PerChan Bool) (s : State) (n : Chan) : Prop where
  ok : s.modeOK n = true
  specified : g.get n = true → (s.cnt.get n).specified = true
  loadable : g.get n = true → (s.cnt.get n).val = lastCount s n → Loadable s n

/-- Everything a count of one armed channel can do when it is not refused: the one count, or nothing where the gate is closed. -/
theorem count_one {g : PerChan Bool} {s u : State} {n : Chan} (armed : s.armed.get n = true)
    (h : count [n] g s = .ok u) :
    Takes g s n ∧ (g.get n = true → CountedOnce s u n) ∧ (g.get n = false → u = s) ∧ ∀ m, m ≠ n → Uncounted s u m := by
  rcases count_cases h with ⟨off, -⟩ | ⟨-, ok, gate, rfl⟩ | ⟨-, ok, gate, specified, ⟨between, rfl⟩ | ⟨last, v, hv, hr⟩⟩
  · simp [armed] at off
  · exact ⟨⟨ok, by simp [gate], by simp [gate]⟩, by simp [gate], fun _ => rfl, fun m _ => uncounted_refl _ m⟩
  · have between : (s.cnt.get n).val ≠ lastCount s n := fun e => by simp [atTerminal_iff.mpr e] at between
    exact ⟨⟨ok, fun _ => specified, fun _ last => absurd last between⟩, fun _ => countedOnce_setCnt specified between,
      by simp [gate], fun m hm => uncounted_setCnt hm s _⟩
  · obtain ⟨loadable, rfl⟩ := terminalCount_ok_loadable hv
    obtain rfl : u = afterTerminal n s := by simpa using hr
    exact ⟨⟨ok, fun _ => specified, fun _ _ => loadable⟩,
      fun _ => countedOnce_afterTerminal armed specified (atTerminal_iff.mp last) loadable, by simp [gate],
      fun m hm => uncounted_afterTerminal hm s⟩

theorem count_one_of_takes {g : PerChan Bool} {s : State} {n : Chan} (armed : s.armed.get n = true)
    (h : Takes g s n) : ∃ u, count [n] g s = .ok u := by
  cases gate : g.get n with
  | false => exact ⟨s, count_gated_off armed h.ok gate []⟩
  | true =>
    have ticking : Ticking g s n := ⟨armed, h.ok, gate, h.specified gate⟩
    by_cases last : (s.cnt.get n).val = lastCount s n
    · exact ⟨_, count_terminal ticking last (terminalCount_of_loadable (h.loadable gate last)) []⟩
    · exact ⟨_, count_step ticking last []⟩

/-! ### What a count reads -/

/-- `t` agrees with `s` on what a count of channel n reads and writes. -/
structure Agree (s t : State) (n : Chan) : Prop where
  mode : t.mode = s.mode
  load : t.load = s.load
  chan : Uncounted s t n

theorem agree_of_frame {s t : State} {n : Chan} (frame : EventFrame s t) (h : Uncounted s t n) : Agree s t n :=
  ⟨frame.mode, frame.load, h⟩

theorem Agree.modeVal {s t : State} {n : Chan} (h : Agree s t n) (m : Chan) : t.modeVal m = s.modeVal m := by
  rw [State.modeVal, State.modeVal, h.mode]

theorem Agree.lastCount {s t : State} {n : Chan} (h : Agree s t n) : lastCount t n = lastCount s n := by
  rw [Claims.lastCount, Claims.lastCount, h.modeVal]

theorem Agree.cascaded {s t : State} {n : Chan} (h : Agree s t n) (m : Chan) : t.cascaded m = s.cascaded m := by
  rw [State.cascaded, State.cascaded, h.modeVal]

theorem Agree.modeOK {s t : State} {n : Chan} (h : Agree s t n) (m : Chan) : t.modeOK m = s.modeOK m := by
  rw [State.modeOK, State.modeOK, h.modeVal, h.mode]

theorem Agree.loadable {s t : State} {n : Chan} (h : Agree s t n) (m : Chan) : Loadable t m ↔ Loadable s m := by
  simp only [loadable_iff, State.tapped, h.modeVal, h.mode, h.load]

theorem Agree.takes {s t : State} {n : Chan} {g : PerChan Bool} (h : Agree s t n) : Takes g t n ↔ Takes g s n := by
  constructor
  · rintro ⟨ok, specified, loadable⟩
    rw [h.chan.cnt, h.lastCount, h.loadable] at loadable
    exact ⟨h.modeOK n ▸ ok, h.chan.cnt ▸ specified, loadable⟩
  · rintro ⟨ok, specified, loadable⟩
    rw [← h.chan.cnt, ← h.lastCount, ← h.loadable] at loadable
    exact ⟨(h.modeOK n).symm ▸ ok, h.chan.cnt.symm ▸ specified, loadable⟩

/-- What happened to channel n between two states is the same between two states that agree with them on channel n. -/
theorem countedOnce_congr {s t u v : State} {n : Chan} (h : CountedOnce t u n) (before : Agree s t n)
    (after : Uncounted u v n) : CountedOnce s v n := by
  obtain ⟨specified, between, terminal⟩ := h
  rw [before.lastCount, before.modeVal, before.loadable, before.load] at terminal
  rw [before.lastCount, before.modeVal] at between
  rw [before.chan.cnt, before.chan.tgl, before.chan.pulses, ← after.cnt, ← after.armed, ← after.tgl, ← after.pulses]
    at terminal
  rw [before.chan.cnt, before.chan.armed, before.chan.tgl, before.chan.pulses, ← after.cnt, ← after.armed, ← after.tgl,
    ← after.pulses] at between
  exact ⟨before.chan.cnt ▸ specified, between, terminal⟩

/-- One count of channel n leaves no choice. -/
theorem countedOnce_unique {s u w : State} {n : Chan} (hu : CountedOnce s u n) (hw : CountedOnce s w n) :
    Uncounted u w n := by
  by_cases last : (s.cnt.get n).val = lastCount s n
  · obtain ⟨-, cnt, armed, tgl, pulses⟩ := hu.terminal last
    obtain ⟨-, cnt', armed', tgl', pulses'⟩ := hw.terminal last
    exact ⟨cnt'.trans cnt.symm, armed'.trans armed.symm, tgl'.trans tgl.symm, pulses'.trans pulses.symm⟩
  · obtain ⟨cnt, armed, tgl, pulses⟩ := hu.between last
    obtain ⟨cnt', armed', tgl', pulses'⟩ := hw.between last
    exact ⟨cnt'.trans cnt.symm, armed'.trans armed.symm, tgl'.trans tgl.symm, pulses'.trans pulses.symm⟩

/-! ### Counting a list of channels, one count each -/

/-- A count of each channel of the list alone, first to last; the first refusal stands. -/
def countEach (g : PerChan Bool) (l : List Chan) (s : State) : Result := l.foldlM (fun s n => count [n] g s) s

theorem countEach_cons (g : PerChan Bool) (n : Chan) (l : List Chan) (s : State) :
    countEach g (n :: l) s = count [n] g s >>= countEach g l := List.foldlM_cons ..

theorem countEach_append (g : PerChan Bool) (l l' : List Chan) (s : State) :
    countEach g (l ++ l') s = countEach g l s >>= countEach g l' := List.foldlM_append ..

theorem countEach_cons_ok {g : PerChan Bool} {n : Chan} {l : List Chan} {s u : State} (h : countEach g (n :: l) s = .ok u) :
    ∃ v, count [n] g s = .ok v ∧ countEach g l v = .ok u := by
  rw [countEach_cons] at h
  cases hv : count [n] g s with
  | error r => rw [hv] at h; cases h
  | ok v => rw [hv] at h; exact ⟨v, rfl, h⟩

/-- Counting distinct armed channels: exactly those with an open gate take a count, and none of them would be refused one. -/
theorem countEach_ok {g : PerChan Bool} {l : List Chan} {s u : State} (nodup : l.Nodup)
    (armed : ∀ n ∈ l, s.armed.get n = true) (h : countEach g l s = .ok u) :
    EventFrame s u ∧ (∀ n ∈ l, Takes g s n) ∧ (∀ n ∈ l, g.get n = true → CountedOnce s u n) ∧
      ∀ n, ¬(n ∈ l ∧ g.get n = true) → Uncounted s u n := by
  induction l generalizing s with
  | nil => cases h; exact ⟨.refl _, by simp, by simp, fun n _ => uncounted_refl _ n⟩
  | cons m l ih =>
    obtain ⟨v, hv, hu⟩ := countEach_cons_ok h
    obtain ⟨fresh, nodup⟩ := List.nodup_cons.mp nodup
    have frame := count_frame [m] hv
    obtain ⟨takes, counted, closed, others⟩ := count_one (armed m List.mem_cons_self) hv
    have distinct {n : Chan} (hn : n ∈ l) : n ≠ m := fun e => fresh (e ▸ hn)
    have before {n : Chan} (hn : n ∈ l) : Agree s v n := agree_of_frame frame (others n (distinct hn))
    obtain ⟨frame', takes', counted', others'⟩ := ih nodup
      (fun n hn => (others n (distinct hn)).armed.trans (armed n (List.mem_cons_of_mem m hn))) hu
    refine ⟨frame.trans frame', fun n hn => ?_, fun n hn gate => ?_, fun n hn => ?_⟩
    · rcases List.mem_cons.mp hn with rfl | hn
      · exact takes
      · exact (before hn).takes.mp (takes' n hn)
    · rcases List.mem_cons.mp hn with rfl | hn
      · exact countedOnce_congr (counted gate) ⟨rfl, rfl, uncounted_refl s n⟩ (others' n fun h => fresh h.1)
      · exact countedOnce_congr (counted' n hn gate) (before hn) (uncounted_refl u n)
    · have rest := others' n fun h => hn ⟨List.mem_cons_of_mem m h.1, h.2⟩
      by_cases hm : n = m
      · subst hm
        rw [closed (by simpa using hn)] at rest
        exact rest
      · exact uncounted_trans (others n hm) rest

theorem countEach_of_takes {g : PerChan Bool} {l : List Chan} {s : State} (nodup : l.Nodup)
    (armed : ∀ n ∈ l, s.armed.get n = true) (takes : ∀ n ∈ l, Takes g s n) : ∃ u, countEach g l s = .ok u := by
  induction l generalizing s with
  | nil => exact ⟨s, rfl⟩
  | cons m l ih =>
    obtain ⟨fresh, nodup⟩ := List.nodup_cons.mp nodup
    obtain ⟨v, hv⟩ := count_one_of_takes (armed m List.mem_cons_self) (takes m List.mem_cons_self)
    obtain ⟨-, -, -, others⟩ := count_one (armed m List.mem_cons_self) hv
    have before {n : Chan} (hn : n ∈ l) : Agree s v n :=
      agree_of_frame (count_frame [m] hv) (others n fun e => fresh (e ▸ hn))
    obtain ⟨u, hu⟩ := ih nodup (fun n hn => (before hn).chan.armed.trans (armed n (List.mem_cons_of_mem m hn)))
      fun n hn => (before hn).takes.mpr (takes n (List.mem_cons_of_mem m hn))
    exact ⟨u, by rw [countEach_cons, hv]; exact hu⟩

/-! ### The cascade (R125, R128) -/

/-- The count on channel n goes on to channel m above it. -/
def feeds (g : PerChan Bool) (s : State) (n m : Chan) : Bool :=
  s.armed.get n && g.get n && decide ((s.cnt.get n).val = lastCount s n) && s.armed.get m && s.cascaded m

theorem feeds_iff {g : PerChan Bool} {s : State} {n m : Chan} :
    feeds g s n m = true ↔ s.armed.get n = true ∧ g.get n = true ∧ (s.cnt.get n).val = lastCount s n ∧
      s.armed.get m = true ∧ s.cascaded m = true := by
  simp only [feeds, Bool.and_eq_true, decide_eq_true_eq, and_assoc]

/-- The channels that a count delivered to the first of the list reaches. -/
def chain (g : PerChan Bool) (s : State) : List Chan → List Chan
  | [] => []
  | [n] => [n]
  | n :: m :: above => n :: if feeds g s n m then chain g s (m :: above) else []

/-- A count of channel n is a count of n alone and, where that feeds the channel above, a count of that. -/
theorem count_cascade {g : PerChan Bool} {s : State} {n m : Chan} (hne : m ≠ n) (above : List Chan) :
    count (n :: m :: above) g s =
      count [n] g s >>= fun u => if feeds g s n m then count (m :: above) g u else .ok u := by
  have silent (h : ¬(s.armed.get n = true ∧ g.get n = true ∧ (s.cnt.get n).val = lastCount s n)) :
      feeds g s n m = false := by
    rw [← Bool.not_eq_true, feeds_iff]
    exact fun ⟨armed, gate, last, _⟩ => h ⟨armed, gate, last⟩
  cases armed : s.armed.get n with
  | false =>
    rw [count_disarmed armed, count_disarmed armed, silent (by simp [armed])]
    rfl
  | true =>
    cases ok : s.modeOK n with
    | false => rw [count_bad_mode armed ok, count_bad_mode armed ok]; rfl
    | true =>
      cases gate : g.get n with
      | false =>
        rw [count_gated_off armed ok gate, count_gated_off armed ok gate, silent (by simp [gate])]
        rfl
      | true =>
        cases specified : (s.cnt.get n).specified with
        | false =>
          rw [count_unspecified armed ok gate specified, count_unspecified armed ok gate specified]
          rfl
        | true =>
          have ticking : Ticking g s n := ⟨armed, ok, gate, specified⟩
          by_cases last : (s.cnt.get n).val = lastCount s n
          · cases done : terminalCount n s with
            | error r => rw [count_terminal_error ticking last done, count_terminal_error ticking last done]; rfl
            | ok u =>
              obtain ⟨-, rfl⟩ := terminalCount_ok_loadable done
              have same : feeds g s n m = true ↔
                  (afterTerminal n s).armed.get m = true ∧ (afterTerminal n s).cascaded m = true := by
                rw [feeds_iff, (uncounted_afterTerminal hne s).armed]
                exact ⟨fun ⟨_, _, _, next⟩ => next, fun next => ⟨armed, gate, last, next⟩⟩
              rw [count_terminal ticking last done, count_terminal ticking last done]
              simp only [passOn, ← same]
              rfl
          · rw [count_step ticking last, count_step ticking last, silent (by simp [last])]
            rfl

section Above

variable {g : PerChan Bool} {s : State} {n m : Chan}

theorem upFrom_next (h : n.next? = some m) : ∃ above, m.upFrom = m :: above ∧ n.upFrom = n :: m :: above := by
  refine ⟨_, Chan.upFrom_eq m, ?_⟩
  rw [Chan.upFrom_eq n, h, ← Chan.upFrom_eq m]
  rfl

theorem upFrom_last (h : n.next? = none) : n.upFrom = [n] := by
  rw [Chan.upFrom_eq n, h]
  rfl

theorem chain_next (h : n.next? = some m) :
    chain g s n.upFrom = n :: if feeds g s n m then chain g s m.upFrom else [] := by
  obtain ⟨above, hm, hn⟩ := upFrom_next h
  rw [hn, hm, chain]

theorem chain_last (h : n.next? = none) : chain g s n.upFrom = [n] := by
  rw [upFrom_last h, chain]

theorem count_next (h : n.next? = some m) :
    count n.upFrom g s = count [n] g s >>= fun u => if feeds g s n m then count m.upFrom g u else .ok u := by
  obtain ⟨above, hm, hn⟩ := upFrom_next h
  rw [hn, hm, count_cascade (Chan.next?_ne h)]

theorem mem_chain_self (g : PerChan Bool) (s : State) (n : Chan) : n ∈ chain g s n.upFrom := by
  cases h : n.next? with
  | none => rw [chain_last h]; exact List.mem_cons_self
  | some m => rw [chain_next h]; exact List.mem_cons_self

end Above

/-- Channel j is n or a channel above it with none but cascaded channels from n on: a count of n can reach j and reads no other. -/
def Segment (s : State) (n j : Chan) : Prop :=
  n.num ≤ j.num ∧ ∀ i : Chan, n.num < i.num → i.num ≤ j.num → s.cascaded i = true

theorem segment_self (s : State) (n : Chan) : Segment s n n := ⟨le_rfl, fun i h h' => by omega⟩

theorem segment_next {s : State} {n m j : Chan} (h : n.next? = some m) (cascaded : s.cascaded m = true)
    (hj : Segment s m j) : Segment s n j := by
  have adjacent := Chan.next?_eq_some.mp h
  refine ⟨by have := hj.1; omega, fun i hi hij => ?_⟩
  rcases Nat.lt_or_ge m.num i.num with hm | hm
  · exact hj.2 i hm hij
  · obtain rfl : i = m := Chan.num_injective.mp (by omega)
    exact cascaded

/-- The segments of two channels that are not cascaded have no channel in common. -/
theorem segment_disjoint {s : State} {n m j : Chan} (hn : s.cascaded n = false) (hm : s.cascaded m = false)
    (jn : Segment s n j) (jm : Segment s m j) : n = m := by
  rcases lt_trichotomy n.num m.num with h | h | h
  · simp [jn.2 m h jm.1] at hm
  · exact Chan.num_injective.mp h
  · simp [jm.2 n h jn.1] at hn

theorem chain_subset {g : PerChan Bool} {s : State} {n j : Chan} (h : j ∈ chain g s n.upFrom) : Segment s n j := by
  induction n using Chan.fromAbove with
  | h n ih =>
    cases hm : n.next? with
    | none =>
      rw [chain_last hm, List.mem_singleton] at h
      exact h ▸ segment_self s n
    | some m =>
      rw [chain_next hm] at h
      split at h
      · rename_i feed
        rcases List.mem_cons.mp h with rfl | h
        · exact segment_self s j
        · obtain ⟨-, -, -, -, cascaded⟩ := feeds_iff.mp feed
          exact segment_next hm cascaded (ih m hm h)
      · rw [List.mem_singleton] at h
        exact h ▸ segment_self s n

theorem chain_nodup (g : PerChan Bool) (s : State) (n : Chan) : (chain g s n.upFrom).Nodup := by
  induction n using Chan.fromAbove with
  | h n ih =>
    cases hm : n.next? with
    | none => rw [chain_last hm]; exact List.nodup_singleton n
    | some m =>
      rw [chain_next hm]
      split
      · refine List.nodup_cons.mpr ⟨fun h => ?_, ih m hm⟩
        have := (chain_subset h).1
        have := Chan.next?_eq_some.mp hm
        omega
      · exact List.nodup_singleton n

theorem chain_armed {g : PerChan Bool} {s : State} {n j : Chan} (armed : s.armed.get n = true)
    (h : j ∈ chain g s n.upFrom) : s.armed.get j = true := by
  induction n using Chan.fromAbove with
  | h n ih =>
    cases hm : n.next? with
    | none =>
      rw [chain_last hm, List.mem_singleton] at h
      exact h ▸ armed
    | some m =>
      rw [chain_next hm] at h
      split at h
      · rename_i feed
        rcases List.mem_cons.mp h with rfl | h
        · exact armed
        · obtain ⟨-, -, -, armed_m, -⟩ := feeds_iff.mp feed
          exact ih m hm armed_m h
      · rw [List.mem_singleton] at h
        exact h ▸ armed

/-- A chain reads nothing outside its segment. -/
theorem chain_congr {g : PerChan Bool} {s t : State} {n : Chan} (h : ∀ j, Segment s n j → Agree s t j) :
    chain g t n.upFrom = chain g s n.upFrom := by
  induction n using Chan.fromAbove with
  | h n ih =>
    have self := h n (segment_self s n)
    cases hm : n.next? with
    | none => rw [chain_last hm, chain_last hm]
    | some m =>
      cases cascaded : s.cascaded m with
      | false => simp [chain_next hm, feeds, self.cascaded, cascaded]
      | true =>
        have above : ∀ j, Segment s m j → Agree s t j := fun j hj => h j (segment_next hm cascaded hj)
        have same : feeds g t n m = feeds g s n m := by
          rw [feeds, feeds, self.chan.armed, self.chan.cnt, self.lastCount, self.cascaded,
            (above m (segment_self s m)).chan.armed]
        rw [chain_next hm, chain_next hm, same, ih m hm above]

/-- A count is a count of each channel of its chain alone. -/
theorem count_eq_countEach (g : PerChan Bool) (s : State) (n : Chan) :
    count n.upFrom g s = countEach g (chain g s n.upFrom) s := by
  induction n using Chan.fromAbove generalizing s with
  | h n ih =>
    cases hm : n.next? with
    | none => rw [chain_last hm, upFrom_last hm, countEach_cons]; cases count [n] g s <;> rfl
    | some m =>
      rw [chain_next hm, count_next hm, countEach_cons]
      cases hu : count [n] g s with
      | error r => rfl
      | ok u =>
        show (if feeds g s n m = true then count m.upFrom g u else .ok u) = countEach g _ u
        split
        · rename_i feed
          obtain ⟨-, -, -, others⟩ := count_one (feeds_iff.mp feed).1 hu
          have same : chain g u m.upFrom = chain g s m.upFrom := chain_congr fun j hj =>
            agree_of_frame (count_frame [n] hu) <| others j fun e => by
              have := hj.1
              have := Chan.next?_eq_some.mp hm
              rw [e] at *
              omega
          rw [ih m hm u, same]
        · rfl

/-! ### Delivery (R120) -/

/-- What decides whether an event is an active edge for a channel: the modes and the prescaler alone, and never for a channel with the
cascade source. -/
structure SourceTest (active : State → Chan → Bool) : Prop where
  congr : ∀ {s t : State} (n : Chan), t.mode = s.mode → t.psc = s.psc → active t n = active s n
  not_cascaded : ∀ {s : State} {n : Chan}, active s n = true → s.cascaded n = false

theorem sourceTest_tickActive : SourceTest tickActive where
  congr n hm hp := by simp only [tickActive, State.modeVal, hm, hp]
  not_cascaded := not_cascaded_of_tickActive

theorem sourceTest_lineActive (k : Chan) (pol : Pol) : SourceTest (lineActive k pol) where
  congr n hm _ := by rw [lineActive, lineActive, State.modeVal, State.modeVal, hm]
  not_cascaded := not_cascaded_of_lineActive

/-- The channels that an event reaches, in the order in which the sources of the list bring them up. -/
def touched (active : State → Chan → Bool) (g : PerChan Bool) (l : List Chan) (s : State) : List Chan :=
  l.flatMap fun n => if s.armed.get n && active s n then chain g s n.upFrom else []

section Touched

variable {active : State → Chan → Bool} {g : PerChan Bool} {l : List Chan} {s : State}

theorem mem_touched {j : Chan} :
    j ∈ touched active g l s ↔ ∃ n ∈ l, s.armed.get n = true ∧ active s n = true ∧ j ∈ chain g s n.upFrom := by
  simp only [touched, List.mem_flatMap]
  refine exists_congr fun n => and_congr_right fun _ => ?_
  split <;> simp_all

theorem touched_armed {j : Chan} (h : j ∈ touched active g l s) : s.armed.get j = true := by
  obtain ⟨n, -, armed, -, hj⟩ := mem_touched.mp h
  exact chain_armed armed hj

theorem touched_nodup (test : SourceTest active) (nodup : l.Nodup) : (touched active g l s).Nodup := by
  refine List.nodup_flatMap.mpr ⟨fun n _ => ?_, nodup.imp fun {n m} hne j hj hj' => ?_⟩
  · split
    · exact chain_nodup g s n
    · exact List.nodup_nil
  · simp only at hj hj'
    split at hj
    · split at hj'
      · rename_i hn hm
        rw [Bool.and_eq_true] at hn hm
        exact hne (segment_disjoint (test.not_cascaded hn.2) (test.not_cascaded hm.2) (chain_subset hj) (chain_subset hj'))
      · cases hj'
    · cases hj

/-- Delivering an event is counting, one by one, the channels it reaches from the state before it. -/
theorem deliver_eq_countEach (test : SourceTest active) (nodup : l.Nodup) :
    deliver active g l s = countEach g (touched active g l s) s := by
  induction l generalizing s with
  | nil => rfl
  | cons n l ih =>
    obtain ⟨fresh, nodup⟩ := List.nodup_cons.mp nodup
    have cons : touched active g (n :: l) s =
        (if s.armed.get n && active s n then chain g s n.upFrom else []) ++ touched active g l s := List.flatMap_cons
    rw [deliver, cons]
    by_cases hit : s.armed.get n = true ∧ active s n = true
    · rw [if_pos hit, if_pos (by simpa using hit), countEach_append, ← count_eq_countEach]
      cases hu : count n.upFrom g s with
      | error r => rfl
      | ok u =>
        have frame := count_frame _ hu
        rw [count_eq_countEach] at hu
        obtain ⟨-, -, -, others⟩ := countEach_ok (chain_nodup g s n) (fun j => chain_armed hit.1) hu
        have same : touched active g l u = touched active g l s := by
          refine List.flatMap_congr fun m hm => ?_
          rw [test.congr m frame.mode frame.psc]
          cases active_m : active s m with
          | false => simp
          | true =>
            have outside {j : Chan} (hj : Segment s m j) : Agree s u j :=
              agree_of_frame frame <| others j fun h => fresh <|
                segment_disjoint (test.not_cascaded active_m) (test.not_cascaded hit.2) hj (chain_subset h.1) ▸ hm
            rw [(outside (segment_self s m)).chan.armed, chain_congr fun j => outside]
        show deliver active g l u = countEach g (touched active g l s) u
        rw [ih nodup, same]
    · rw [if_neg hit, if_neg (by simpa using hit), ih nodup, List.nil_append]

end Touched

end Sys2Proof.Machine

/-! ## Count events (42_counting.md sections 1, 2 and 4 to 8)

The gate line and the edges of the taps; which checks stop an event; then the statements that need no run: the refusals, the lost and the
cascaded count, which channels an event counts, the order of delivery, and that events are never refused once the armed channels are
programmed. -/

namespace Sys2Proof.Machine

open Claims

/-! ### The two checks before anything is counted (R120) -/

/-- An event that passes both checks counts, one by one, the channels it reaches. -/
theorem countEvent_eq_countEach {active : State → Chan → Bool} (test : SourceTest active) {s : State}
    (modes : ∀ n, s.armed.get n = true → s.modeOK n = true)
    (gates : ∀ n, s.armed.get n = true → (s.gateOK n).isSome = true) :
    countEvent active s = countEach s.gates (touched active s.gates Chan.all s) s := by
  rw [countEvent, if_neg (by simp [modesOK_iff.mpr modes]), if_neg (by simp [gatesOK_iff.mpr gates]),
    deliver_eq_countEach test (by decide)]

theorem countEvent_unspecifiedGate {active : State → Chan → Bool} {s : State} {n : Chan}
    (modes : ∀ n, s.armed.get n = true → s.modeOK n = true) (armed : s.armed.get n = true) (gate : s.gateOK n = none) :
    countEvent active s = .error .unspecifiedGate := by
  have phase2 : s.gatesOK = false := by
    rw [← Bool.not_eq_true, gatesOK_iff]
    intro known
    simpa [gate] using known n armed
  rw [countEvent, if_neg (by simp [modesOK_iff.mpr modes]), if_pos phase2]

theorem touched_eq_nil {active : State → Chan → Bool} {g : PerChan Bool} {l : List Chan} {s : State}
    (h : ∀ n ∈ l, s.armed.get n = true → active s n = false) : touched active g l s = [] := by
  refine List.flatMap_eq_nil_iff.mpr fun n hn => if_neg fun hit => ?_
  rw [Bool.and_eq_true] at hit
  simp [h n hn hit.1] at hit

/-- An event that is an active edge for one armed channel reaches what a count of that channel reaches. -/
theorem touched_source {active : State → Chan → Bool} {g : PerChan Bool} {s : State} {n : Chan}
    (armed : s.armed.get n = true) (hit : active s n = true)
    (others : ∀ m, m ≠ n → s.armed.get m = true → active s m = false) :
    touched active g Chan.all s = chain g s n.upFrom := by
  obtain ⟨pre, post, split⟩ := List.append_of_mem (Chan.mem_all n)
  have nodup : (pre ++ n :: post).Nodup := split ▸ (by decide : Chan.all.Nodup)
  rw [List.nodup_middle, List.nodup_cons, List.mem_append, not_or] at nodup
  have silent {l : List Chan} (h : n ∉ l) : touched active g l s = [] :=
    touched_eq_nil fun m hm => others m fun e => h (e ▸ hm)
  have append : touched active g Chan.all s = touched active g pre s ++
      ((if s.armed.get n && active s n then chain g s n.upFrom else []) ++ touched active g post s) := by
    rw [touched, split, List.flatMap_append, List.flatMap_cons]
    rfl
  rw [append, silent nodup.1.1, silent nodup.1.2, armed, hit, List.append_nil]
  rfl

/-- Such an event, where both checks pass, is a count of that channel. -/
theorem countEvent_source {active : State → Chan → Bool} (test : SourceTest active) {s : State} {n : Chan}
    (modes : ∀ n, s.armed.get n = true → s.modeOK n = true)
    (gates : ∀ n, s.armed.get n = true → (s.gateOK n).isSome = true) (armed : s.armed.get n = true)
    (hit : active s n = true) (others : ∀ m, m ≠ n → s.armed.get m = true → active s m = false) :
    countEvent active s = count n.upFrom s.gates s := by
  rw [countEvent_eq_countEach test modes gates, touched_source armed hit others, ← count_eq_countEach]

theorem onlyArmed_eq {s : State} {n m : Chan} (only : OnlyArmed s n) (armed : s.armed.get m = true) : m = n := by
  by_contra hne
  simp [only.2 m hne] at armed

/-- With one channel armed and its gate specified, an active edge of its source is a count of it, and any other event is nothing. -/
theorem countEvent_only {active : State → Chan → Bool} (test : SourceTest active) {s : State} {n : Chan}
    (only : OnlyArmed s n) (ok : s.modeOK n = true) (gate : (s.gateOK n).isSome = true) :
    countEvent active s = if active s n then count n.upFrom s.gates s else .ok s := by
  have modes (m : Chan) (armed : s.armed.get m = true) : s.modeOK m = true := onlyArmed_eq only armed ▸ ok
  have gates (m : Chan) (armed : s.armed.get m = true) : (s.gateOK m).isSome = true := onlyArmed_eq only armed ▸ gate
  split
  · rename_i hit
    exact countEvent_source test modes gates only.1 hit fun m hm armed => absurd (onlyArmed_eq only armed) hm
  · rename_i miss
    rw [countEvent_eq_countEach test modes gates,
      touched_eq_nil fun m _ armed => onlyArmed_eq only armed ▸ Bool.eq_false_iff.mpr miss]
    rfl

/-! ### Gates (R129, R130) -/

theorem gatePass_none (line : Option Bool) : gatePass 0b000#3 line = some true := rfl

theorem gatePass_high (line : Option Bool) : gatePass 0b100#3 line = line := by cases line <;> rfl

theorem gatePass_low (line : Option Bool) : gatePass 0b101#3 line = line.map (!·) := by cases line <;> rfl

theorem gatePass_isSome (gc : BitVec 3) (line : Option Bool) :
    (gatePass gc line).isSome = true ↔ gc = enc.gcNone ∨ line.isSome = true := by
  unfold gatePass
  split <;> simp [*]

theorem gateLine_out {s : State} {n j : Chan} (h : s.plat.gateWire.get n = .out j) : s.gateLine n = s.outLine j := by
  rw [State.gateLine, h]

theorem gateLine_ext {s : State} {n : Chan} (h : s.plat.gateWire.get n = .ext) :
    s.gateLine n = if (s.gateIn.get n).known then some (s.gateIn.get n).level else none := by
  rw [State.gateLine, h]

theorem gateOK_none {s : State} {n : Chan} (h : modeGC (s.modeVal n) = enc.gcNone) : s.gateOK n = some true := if_pos h

/-- A gate step takes the level of no line away. -/
theorem gateOK_isSome_setGateIn {s : State} {n : Chan} (k : Chan) (v : Bool) (h : (s.gateOK n).isSome = true) :
    ((s.setGateIn k (.is v)).gateOK n).isSome = true := by
  rw [State.gateOK, gatePass_isSome] at h ⊢
  refine h.imp_right fun line => ?_
  cases wire : s.plat.gateWire.get n with
  | out j =>
    rw [gateLine_out wire] at line
    rw [gateLine_out (s := s.setGateIn k (.is v)) wire]
    exact line
  | ext =>
    rw [gateLine_ext wire] at line
    rw [gateLine_ext (s := s.setGateIn k (.is v)) wire, setGateIn_gateIn, PerChan.get_set]
    by_cases hk : n = k
    · rw [if_pos hk]
      rfl
    · rw [if_neg hk]
      exact line

/-! ### Edges of the taps (R122) -/

theorem Tap.ratio_pos (k : Tap) : 0 < k.ratio := Nat.pos_of_ne_zero (pow_ne_zero _ (by decide))

/-- Half the period of a tap is a multiple of the period of every lower tap. -/
theorem ratio_dvd_half {j k : Tap} (lt : j.num < k.num) : j.ratio ∣ k.ratio / 2 := by
  have one : 1 ≤ j.num := by cases j <;> decide
  obtain ⟨d, hd⟩ := Nat.exists_eq_add_of_lt (show j.num - 1 < k.num - 1 by omega)
  refine ⟨8 * 16 ^ d, Nat.div_eq_of_eq_mul_right two_pos ?_⟩
  rw [Tap.ratio, Tap.ratio, hd, pow_succ, pow_add]
  ring

/-- The phase of the prescaler at which a tap has an edge: 0 rising, half a period falling. -/
def edgePhase (k : Tap) (pol : Pol) : Nat := if pol = .falling then k.ratio / 2 else 0

theorem edgePhase_lt (k : Tap) (pol : Pol) : edgePhase k pol < k.ratio := by
  have := Tap.ratio_pos k
  unfold edgePhase
  split <;> omega

theorem mod_eq_iff_dvd {p r x : Nat} (hp : p < r) : x % r = p ↔ r ∣ x + (r - p) := by
  rw [← Nat.modEq_zero_iff_dvd]
  have : p + (r - p) ≡ 0 [MOD r] := by rw [Nat.add_sub_cancel' hp.le]; exact Nat.mod_self r
  constructor
  · intro h
    have : x ≡ p [MOD r] := h.trans (Nat.mod_eq_of_lt hp).symm
    exact (this.add_right _).trans ‹_›
  · intro h
    have : x ≡ p [MOD r] := Nat.ModEq.add_right_cancel' _ (h.trans this.symm)
    exact Eq.trans this (Nat.mod_eq_of_lt hp)

/-- Edges as multiples of the ratio, e ticks on. -/
theorem tapEdge_iff_dvd (psc : Word) (k : Tap) (pol : Pol) (e : Nat) :
    tapEdge (psc + BitVec.ofNat 16 e) k pol = true ↔ k.ratio ∣ psc.toNat + (k.ratio - edgePhase k pol) + e := by
  rw [tapEdge_add, decide_eq_true_iff, ← edgePhase, mod_eq_iff_dvd (edgePhase_lt k pol), Nat.add_right_comm]

theorem tapEdge_now (psc : Word) (k : Tap) (pol : Pol) :
    tapEdge psc k pol = true ↔ k.ratio ∣ psc.toNat + (k.ratio - edgePhase k pol) := by
  have h := tapEdge_iff_dvd psc k pol 0
  rwa [BitVec.add_zero, Nat.add_zero] at h

/-- After an edge the e-th tick is an edge exactly when the period divides e. -/
theorem tapEdge_after {psc : Word} {k : Tap} {pol : Pol} (h : tapEdge psc k pol = true) (e : Nat) :
    tapEdge (psc + BitVec.ofNat 16 e) k pol = true ↔ k.ratio ∣ e := by
  rw [tapEdge_iff_dvd]
  exact Nat.dvd_add_right ((tapEdge_now psc k pol).mp h)

/-- From any number x the first multiple of r comes after at least 1 and at most r steps. -/
theorem first_multiple (x : Nat) {r : Nat} (hr : 0 < r) :
    ∃ d, 1 ≤ d ∧ d ≤ r ∧ r ∣ x + d ∧ ∀ e, 1 ≤ e → e < d → ¬r ∣ x + e := by
  have lt := Nat.mod_lt x hr
  have split := Nat.div_add_mod x r
  refine ⟨r - x % r, by omega, by omega, ⟨x / r + 1, ?_⟩, fun e h1 h2 hdvd => ?_⟩
  · rw [Nat.mul_add, Nat.mul_one]
    omega
  · have : r ∣ x % r + e := by
      rw [← split, Nat.add_assoc] at hdvd
      exact (Nat.dvd_add_right (Nat.dvd_mul_right r _)).mp hdvd
    exact Nat.not_dvd_of_pos_of_lt (by omega) (by omega) this

/-! ### Which channels an event hits -/

theorem lineActive_iff {s : State} {k n : Chan} {pol : Pol} : lineActive k pol s n = true ↔ LineHit s k pol n := by
  have code : lineCode k = BitVec.ofNat 4 k.num := by cases k <;> rfl
  have edge (b : Bool) : (if b = true then Pol.falling else .rising) = pol ↔ b = decide (pol = .falling) := by
    cases b <;> cases pol <;> decide
  rw [lineActive, Bool.and_eq_true, decide_eq_true_iff, decide_eq_true_iff, code, LineHit, ← edge]
  rfl

theorem tapCode_eq (k : Tap) : k.code = BitVec.ofNat 4 (10 + k.num) := by cases k <;> rfl

theorem tickActive_eq_true {s : State} {n : Chan} :
    tickActive s n = true ↔ ∃ k : Tap, modeSrc (s.modeVal n) = k.code ∧ tapEdge s.psc k (modeEdge (s.modeVal n)) = true := by
  unfold tickActive
  split
  · rename_i k hk
    rw [tapOfCode_eq_some] at hk
    refine ⟨fun h => ⟨k, hk, h⟩, fun ⟨j, hj, h⟩ => ?_⟩
    obtain rfl : j = k := Option.some.inj ((tapOfCode_code j).symm.trans ((hj.symm.trans hk) ▸ tapOfCode_code k))
    exact h
  · rename_i hnone
    refine ⟨fun h => absurd h Bool.false_ne_true, fun ⟨k, hk, _⟩ => ?_⟩
    rw [hk, tapOfCode_code] at hnone
    cases hnone

theorem tickActive_iff {s : State} {n : Chan} :
    tickActive { s with psc := s.psc + 1#16 } n = true ↔ TapHit s n := by
  rw [tickActive_eq_true, TapHit]
  refine exists_congr fun k => ?_
  rw [← tapCode_eq]
  refine and_congr_right fun _ => ?_
  show tapEdge (s.psc + BitVec.ofNat 16 1) k (if (s.modeVal n).getLsbD 12 = true then .falling else .rising) = true ↔ _
  cases falling : (s.modeVal n).getLsbD 12 with
  | false => simp [tapEdge_add, Tap.ratio]
  | true =>
    rw [if_pos rfl, tapEdge_add, decide_eq_true_iff]
    have f1 : k.num = 1 ↔ k = .f1 := by cases k <;> decide
    simp only [Bool.true_eq_false, false_implies, forall_const, true_and, if_true, f1]
    refine ⟨.inr, fun h => h.elim (fun e => ?_) id⟩
    subst e
    exact Nat.mod_one _

/-! ### Reached channels are the touched ones with an open gate -/

section Reached

variable {active : State → Chan → Bool} {s : State} {p : Word} {hit : Chan → Prop}

/-- Where a chain holds a channel whose count feeds the next, it holds the next. -/
theorem chain_extend {g : PerChan Bool} {n l m : Chan} (hl : l ∈ chain g s n.upFrom) (adjacent : l.next? = some m)
    (feed : feeds g s l m = true) : m ∈ chain g s n.upFrom := by
  induction n using Chan.fromAbove with
  | h n ih =>
    by_cases e : l = n
    · subst e
      rw [chain_next adjacent, if_pos feed]
      exact List.mem_cons_of_mem _ (mem_chain_self g s m)
    · cases hj : n.next? with
      | none =>
        rw [chain_last hj, List.mem_singleton] at hl
        exact absurd hl e
      | some j =>
        rw [chain_next hj] at hl ⊢
        have hl := (List.mem_cons.mp hl).resolve_left e
        split at hl
        · rename_i feed_n
          rw [if_pos feed_n]
          exact List.mem_cons_of_mem _ (ih j hj hl)
        · cases hl

/-- From a reached channel on, a chain is reached as far as the gates are open. -/
theorem reached_of_chain {n j : Chan} (hn : s.gates.get n = true → Reached s hit n) (h : j ∈ chain s.gates s n.upFrom)
    (gate : s.gates.get j = true) : Reached s hit j := by
  induction n using Chan.fromAbove with
  | h n ih =>
    cases hm : n.next? with
    | none =>
      rw [chain_last hm, List.mem_singleton] at h
      exact h ▸ hn (h ▸ gate)
    | some m =>
      rw [chain_next hm] at h
      rcases List.mem_cons.mp h with rfl | h
      · exact hn gate
      · split at h
        · rename_i feed
          obtain ⟨-, open_n, last, armed, cascaded⟩ := feeds_iff.mp feed
          exact ih m hm (fun open_m => .cascade n m (hn open_n) last (Chan.next?_eq_some.mp hm) (cascaded_iff.mp cascaded)
            armed (gates_eq_true.mp open_m)) h
        · cases h

theorem reached_iff (source : ∀ n, active s n = true ↔ hit n) {n : Chan} :
    Reached s hit n ↔ n ∈ touched active s.gates Chan.all s ∧ s.gates.get n = true := by
  constructor
  · intro h
    induction h with
    | source n armed gate isHit =>
      exact ⟨mem_touched.mpr ⟨n, Chan.mem_all n, armed, (source n).mpr isHit, mem_chain_self _ s n⟩, gates_eq_true.mpr gate⟩
    | cascade l n _ last adjacent cascade armed gate ih =>
      obtain ⟨hl, open_l⟩ := ih
      obtain ⟨m, hm, armed_m, active_m, chained⟩ := mem_touched.mp hl
      have feed : feeds s.gates s l n = true :=
        feeds_iff.mpr ⟨touched_armed hl, open_l, last, armed, cascaded_iff.mpr cascade⟩
      exact ⟨mem_touched.mpr ⟨m, hm, armed_m, active_m, chain_extend chained (Chan.next?_eq_some.mpr adjacent) feed⟩,
        gates_eq_true.mpr gate⟩
  · rintro ⟨h, gate⟩
    obtain ⟨m, -, armed, active_m, chained⟩ := mem_touched.mp h
    exact reached_of_chain (fun gate => .source m armed (gates_eq_true.mp gate) ((source m).mp active_m)) chained gate

/-- What a count event does, where its test of the sources says which channels it hits. -/
theorem countsTheChannels (test : SourceTest active) (source : ∀ n, active s n = true ↔ hit n) :
    CountsTheChannels (countEvent active s) s s hit := by
  have done {u : State} (h : countEvent active s = .ok u) := by
    have h := (countEvent_eq_ok.mp h).2.2
    rw [deliver_eq_countEach test (by decide)] at h
    exact countEach_ok (touched_nodup test (by decide)) (fun n => touched_armed) h
  refine ⟨fun h => ?_, fun u n hu reached => ?_, fun u n hu unreached => ?_⟩
  · rw [countEvent_eq_countEach test (fun n armed => (h n armed).1)
      fun n armed => Option.isSome_iff_ne_none.mpr (h n armed).2.1,
      touched_eq_nil fun n _ armed => by simpa using mt (source n).mp (h n armed).2.2]
    rfl
  · obtain ⟨mem, gate⟩ := (reached_iff source).mp reached
    obtain ⟨-, -, counted, -⟩ := done hu
    exact counted n mem gate
  · obtain ⟨-, -, -, others⟩ := done hu
    exact others n (mt (reached_iff source).mpr unreached)

/-- Which channels are reached does not depend on the prescaler, but through `hit`. -/
theorem reached_prescaler (p : Word) {n : Chan} (h : Reached s hit n) : Reached { s with psc := p } hit n := by
  induction h with
  | source n armed gate isHit => exact .source n armed gate isHit
  | cascade l n _ last adjacent cascade armed gate ih => exact .cascade l n ih last adjacent cascade armed gate

/-- Counting reads no prescaler, so what an event does after the prescaler's step it does to the state before it. -/
theorem countsTheChannels_of_prescaler {event : Result} {idle : State}
    (h : CountsTheChannels event { s with psc := p } idle hit) : CountsTheChannels event s idle hit where
  none_hit := h.none_hit
  counted u n hu reached := countedOnce_congr (h.counted u n hu (reached_prescaler p reached)) ⟨rfl, rfl, rfl, rfl, rfl, rfl⟩
    (uncounted_refl u n)
  uncounted u n hu unreached :=
    have before := h.uncounted u n hu fun reached => unreached (reached_prescaler (s := { s with psc := p }) s.psc reached)
    ⟨before.cnt, before.armed, before.tgl, before.pulses⟩

end Reached

/-! ### The order of delivery -/

/-- Two states that one event could leave and that agree on every channel differ in the order of pulses alone. -/
theorem eq_of_frames {s u w : State} (hu : EventFrame s u) (hw : EventFrame s w) (h : ∀ n, Uncounted u w n) :
    w = { u with history := w.history } ∧ w.history.Perm u.history := by
  have cnt : w.cnt = u.cnt := PerChan.ext_get fun n => (h n).cnt
  have armed : w.armed = u.armed := PerChan.ext_get fun n => (h n).armed
  have tgl : w.tgl = u.tgl := PerChan.ext_get fun n => (h n).tgl
  refine ⟨?_, List.perm_iff_count.mpr fun n => (h n).pulses⟩
  cases u
  cases w
  obtain ⟨p, l, ho, mo, m, d, x, ps, gi, il, im, re, sc, dr, -⟩ := hu
  obtain ⟨p', l', ho', mo', m', d', x', ps', gi', il', im', re', sc', dr', -⟩ := hw
  simp_all

/-! ### Events after programming -/

theorem takes_of_countable {s : State} {n : Chan} (h : Countable s n) (g : PerChan Bool) : Takes g s n :=
  ⟨h.mode_ok, fun _ => h.count_known, fun _ _ =>
    loadable_iff.mpr ⟨(Bool.and_eq_true_iff.mp h.mode_ok).1, h.load_known, h.load_fits⟩⟩

/-- What counting changes leaves every armed channel countable. -/
theorem eventSafe_of_frame {s t : State} (frame : EventFrame s t) (safe : EventSafe s) : EventSafe t := by
  intro n armed
  have before := safe n (frame.armed n armed)
  have modeVal : t.modeVal n = s.modeVal n := by rw [State.modeVal, frame.mode, ← State.modeVal]
  constructor
  · rw [State.modeOK, modeVal, frame.mode]
    exact before.mode_ok
  · rw [gateOK_isSome_congr n frame.plat frame.mode frame.gateIn frame.latch]
    exact before.gate_known
  · rcases frame.cnt n with same | known
    · rw [same]; exact before.count_known
    · exact known
  · rw [frame.load]
    exact before.load_known
  · rw [State.tapped, modeVal, frame.load]
    exact before.load_fits

theorem countEvent_safe {active : State → Chan → Bool} (test : SourceTest active) {s : State} (safe : EventSafe s) :
    ∃ u, countEvent active s = .ok u ∧ EventSafe u := by
  rw [countEvent_eq_countEach test (fun n armed => (safe n armed).mode_ok) fun n armed => (safe n armed).gate_known]
  have armed (n : Chan) (h : n ∈ touched active s.gates Chan.all s) : s.armed.get n = true := touched_armed h
  have nodup : (touched active s.gates Chan.all s).Nodup := touched_nodup test (by decide)
  obtain ⟨u, hu⟩ := countEach_of_takes nodup armed fun n hn => takes_of_countable (safe n (armed n hn)) _
  exact ⟨u, hu, eventSafe_of_frame (countEach_ok nodup armed hu).1 safe⟩

theorem eventSafe_setGateIn {s : State} (safe : EventSafe s) (k : Chan) (v : Bool) :
    EventSafe (s.setGateIn k (.is v)) := fun n armed =>
  have before := safe n armed
  ⟨before.mode_ok, gateOK_isSome_setGateIn k v before.gate_known, before.count_known, before.load_known, before.load_fits⟩

/-! ### Refused counts -/

section Refused

variable {s : State} {n : Chan} {g : PerChan Bool} (armed : s.armed.get n = true) (ok : s.modeOK n = true)
  (gate : g.get n = true) (above : List Chan)
include armed ok gate

theorem count_refused : CountRefused (count (n :: above) g s) s n := by
  have mode : (s.mode.get n).specified = true := (Bool.and_eq_true_iff.mp ok).1
  refine ⟨fun unknown => count_unspecified armed ok gate unknown above, fun known last load => ?_⟩
  exact count_terminal_error ⟨armed, ok, gate, known⟩ last (terminalCount_error (transfer_unspecifiedLoad mode load)) above

theorem smallReload_refused : SmallReloadRefused (count (n :: above) g s) s n := by
  intro cnt load down tap small
  have mode : (s.mode.get n).specified = true := (Bool.and_eq_true_iff.mp ok).1
  have last : (s.cnt.get n).val = lastCount s n := by rw [cnt, lastCount, down]; rfl
  exact count_terminal_error ⟨armed, ok, gate, by rw [cnt]; rfl⟩ last
    (terminalCount_error (transfer_smallLoad mode load down tap small)) above

end Refused

end Sys2Proof.Machine

namespace Sys2Proof.Proofs

open Sys2Proof.Machine Sys2Proof.Claims

/-! ### Safety of events -/

/-- Settles O38: a countable channel is never refused a count, so no channel the event reaches stops it; and what counting and gate
steps change keeps every armed channel countable. -/
theorem countEventsAreSafeAfterProgramming : Obligations.CountEventsAreSafeAfterProgramming := by
  intro s safe
  have ticked : EventSafe { s with psc := s.psc + 1#16 } := fun n armed =>
    have before := safe n armed
    ⟨before.mode_ok, before.gate_known, before.count_known, before.load_known, before.load_fits⟩
  refine ⟨countEvent_safe sourceTest_tickActive ticked,
    fun k pol => countEvent_safe (sourceTest_lineActive k pol) safe, fun k v u hu => ?_⟩
  obtain ⟨-, rfl⟩ := gateSet_eq_ok.mp hu
  exact eventSafe_setGateIn safe k v

/-! ### Gates and lost counts -/

/-- Settles O39, by the two ways a gate line can be driven. -/
theorem gateSetWritesTheGateLine : Obligations.GateSetWritesTheGateLine := by
  intro k v s
  refine ⟨fun wire => gateSet_eq_ok.mpr ⟨wire, rfl⟩, fun j wire => ?_⟩
  rw [gateSet, wire]

/-- Settles O42, code by code of the gating field. -/
theorem gateLevelDecidesCounting : Obligations.GateLevelDecidesCounting := by
  intro s n
  refine ⟨fun gc => ?_, fun v gc line => ?_, fun v gc line => ?_, fun j wire => gateLine_out wire, fun wire known => ?_,
    fun wire unknown => ?_, fun gc line => ?_, fun gc line => ?_⟩
  · rw [State.gateOK, modeGC_def, gc, gatePass_none]
  · rw [State.gateOK, modeGC_def, gc, line, gatePass_high]
  · rw [State.gateOK, modeGC_def, gc, line, gatePass_low, Option.map_some]
  · rw [gateLine_ext wire, if_pos known]
  · rw [gateLine_ext wire, if_neg (by simp [unknown])]
  · rw [State.gateOK, modeGC_def, gc, line, gatePass_high]
  · rw [State.gateOK, modeGC_def, gc, line, gatePass_low, Option.map_none]

/-- Settles O40: an event that finds no channel armed reaches none. -/
theorem disarmedChannelsTakeNoPart : Obligations.DisarmedChannelsTakeNoPart := by
  intro s disarmed
  have nothing {active : State → Chan → Bool} (test : SourceTest active) {s : State} (disarmed : ∀ n, s.armed.get n = false) :
      countEvent active s = .ok s := by
    have never {P : Prop} {n : Chan} (armed : s.armed.get n = true) : P := by simp [disarmed n] at armed
    rw [countEvent_eq_countEach test (fun n => never) (fun n => never), touched_eq_nil fun n _ => never]
    rfl
  exact ⟨nothing sourceTest_tickActive disarmed, fun k pol => nothing (sourceTest_lineActive k pol) disarmed⟩

/-- Settles O41: the checks read the modes and the gates alone, which the prescaler's step does not change. -/
theorem countEventRefusals : Obligations.CountEventRefusals := by
  intro s n k pol armed
  exact ⟨fun bad => ⟨clkTick_bad_mode armed bad, srcEdge_bad_mode armed bad k pol⟩, fun modes gate =>
    ⟨countEvent_unspecifiedGate (s := { s with psc := s.psc + 1#16 }) modes armed gate,
      countEvent_unspecifiedGate modes armed gate⟩⟩

/-- Settles O45: the two early returns of R124. -/
theorem lostEdgesChangeNothing : Obligations.LostEdgesChangeNothing :=
  fun _ above g _ => ⟨fun disarmed => count_disarmed disarmed above g,
    fun armed ok gate => count_gated_off armed ok gate above⟩

/-! ### Taps -/

/-- Settles O43: the ratio of a lower tap divides the ratio of a higher one and half of it. -/
theorem tapEdgesNest : Obligations.TapEdgesNest := by
  intro psc j k
  refine ⟨fun le edge => ?_, fun lt edge => ?_, ?_, ?_⟩
  · rw [tapEdge_eq, decide_eq_true_iff] at edge ⊢
    exact Nat.mod_eq_zero_of_dvd ((pow_dvd_pow 16 (by omega)).trans (Nat.dvd_of_mod_eq_zero edge))
  · rw [tapEdge_eq, decide_eq_true_iff, if_pos rfl] at edge
    rw [tapEdge_eq, decide_eq_true_iff, if_neg (by decide), ← Nat.div_add_mod psc.toNat k.ratio, edge]
    exact Nat.mod_eq_zero_of_dvd (((pow_dvd_pow 16 (by omega)).mul_right _).add (ratio_dvd_half lt))
  · rw [tapEdge_eq, decide_eq_true_iff]
    exact Nat.mod_one _
  · rw [tapEdge_eq, decide_eq_true_iff]
    exact Nat.mod_one _

/-- Settles O44: edges are the multiples of the tap's ratio from a phase on. -/
theorem tapEdgesComeEveryPeriod : Obligations.TapEdgesComeEveryPeriod := by
  intro psc k pol
  refine ⟨?_, fun edge e _ => tapEdge_after edge e, fun lt edge => ?_⟩
  · obtain ⟨d, one, period, edge, first⟩ :=
      first_multiple (psc.toNat + (k.ratio - edgePhase k pol)) (Tap.ratio_pos k)
    exact ⟨d, one, period, (tapEdge_iff_dvd psc k pol d).mpr edge, fun e he hd =>
      Bool.eq_false_iff.mpr (mt (tapEdge_iff_dvd psc k pol e).mp (first e he hd))⟩
  · rw [tapEdge_eq, decide_eq_true_iff, if_neg (by decide)] at edge
    rw [tapEdge_add, decide_eq_true_iff, if_pos rfl, Nat.add_mod, edge, Nat.zero_add, Nat.mod_mod]
    exact Nat.mod_eq_of_lt (edgePhase_lt k .falling)

/-! ### Cascades, events and refusals -/

/-- Settles O47: what a terminal count passes on, read off the next channel, which it has not changed. -/
theorem terminalCountFeedsTheCascade : Obligations.TerminalCountFeedsTheCascade := by
  intro n m above g s u armed ok gate specified last hm done
  obtain ⟨-, rfl⟩ := terminalCount_ok_loadable done
  have next : Uncounted s (afterTerminal n s) m := uncounted_afterTerminal hm s
  have source : (afterTerminal n s).cascaded m = true ↔ (s.modeVal m).extractLsb' 8 4 = 0b0000#4 :=
    cascaded_iff (s := afterTerminal n s)
  rw [count_terminal ⟨armed, ok, gate, specified⟩ (atTerminal_iff.mp last) done, passOn, next.armed]
  refine ⟨fun armed_m cascade => if_pos ⟨armed_m, source.mpr cascade⟩, fun lost => if_neg fun h => ?_⟩
  rcases lost with disarmed | other
  · simp [disarmed] at h
  · exact other (source.mp h.2)

/-- Settles O59: for the edge at `s`, and for the tick at `s` with the prescaler stepped, which no channel's count reads. -/
theorem eventsCountTheirChannels : Obligations.EventsCountTheirChannels := by
  intro s
  refine ⟨fun k pol => countsTheChannels (sourceTest_lineActive k pol) fun n => lineActive_iff, ?_⟩
  exact countsTheChannels_of_prescaler <|
    countsTheChannels (s := { s with psc := s.psc + 1#16 }) sourceTest_tickActive fun n => tickActive_iff

/-- Settles O51: both orders count the same distinct channels, and one count each leaves no choice. -/
theorem deliveryOrderIsNotObservable : Obligations.DeliveryOrderIsNotObservable := by
  intro s u g active source done
  have test : SourceTest active := by
    rcases source with rfl | ⟨k, pol, rfl⟩
    · exact sourceTest_tickActive
    · exact sourceTest_lineActive k pol
  have perm : (touched active g Chan.all.reverse s).Perm (touched active g Chan.all s) :=
    (List.reverse_perm Chan.all).flatMap_right _
  have nodup : (touched active g Chan.all s).Nodup := touched_nodup test (by decide)
  have nodup' : (touched active g Chan.all.reverse s).Nodup := touched_nodup test (by decide)
  rw [deliver_eq_countEach test (by decide)] at done
  obtain ⟨frame, takes, counted, others⟩ := countEach_ok nodup (fun n => touched_armed) done
  obtain ⟨w, done'⟩ := countEach_of_takes nodup' (fun n => touched_armed) fun n hn => takes n (perm.mem_iff.mp hn)
  obtain ⟨frame', -, counted', others'⟩ := countEach_ok nodup' (fun n => touched_armed) done'
  refine ⟨w, by rw [deliver_eq_countEach test (by decide), done'], eq_of_frames frame frame' fun n => ?_⟩
  by_cases reached : n ∈ touched active g Chan.all s ∧ g.get n = true
  · exact countedOnce_unique (counted n reached.1 reached.2) (counted' n (perm.mem_iff.mpr reached.1) reached.2)
  · exact uncounted_trans (uncounted_symm (others n reached)) (others' n fun h => reached ⟨perm.mem_iff.mp h.1, h.2⟩)

/-- Settles O60: with no other channel armed the event is the count. -/
theorem refusedCountsStopTheEvent : Obligations.RefusedCountsStopTheEvent := by
  intro s n armed ok
  refine ⟨fun above g gate => ⟨count_refused armed ok gate above, smallReload_refused armed ok gate above⟩,
    fun only gate => ⟨fun k pol isHit => ?_, fun isHit => ?_⟩⟩
  · rw [srcEdge, countEvent_only (sourceTest_lineActive k pol) only ok (by simp [gate]), if_pos (lineActive_iff.mpr isHit),
      Chan.upFrom_eq]
    exact count_refused armed ok (gates_eq_true.mpr gate) _
  · have event := countEvent_only (s := { s with psc := s.psc + 1#16 }) sourceTest_tickActive only ok
      (Option.isSome_iff_exists.mpr ⟨true, gate⟩)
    rw [clkTick, event, if_pos (tickActive_iff.mpr isHit), Chan.upFrom_eq]
    exact ⟨count_refused (s := { s with psc := s.psc + 1#16 }) armed ok (gates_eq_true.mpr gate) _,
      smallReload_refused (s := { s with psc := s.psc + 1#16 }) armed ok (gates_eq_true.mpr gate) _⟩

end Sys2Proof.Proofs

/-! ## Whole-machine rules (10_state.md, 40_register_access.md section 5, 70_reset_and_hazards.md section 2)

What every host operation and every event leaves alone, and the protocol invariant under each of them; then the statements over all
steps. -/

namespace Sys2Proof.Machine

open Claims

/-! ### What a host operation leaves alone -/

section HostEffect

variable {s u : State} {i : Instr} (h : HostEffect s i u)
include h

theorem hostEffect_plat : u.plat = s.plat := by
  cases h with
  | load m u idle ready done => exact (congrArg State.plat (transferAll_frame _ done).1 :)
  | write16 v t | writeLow b t | writeHigh b t => simp
  | _ => rfl

theorem hostEffect_hold (notReset : i ≠ .reset) (notSave : ∀ m, i ≠ .save m) : u.hold = s.hold := by
  cases h with
  | reset => exact absurd rfl notReset
  | save m => exact absurd rfl (notSave m)
  | load m u idle ready done => exact (congrArg State.hold (transferAll_frame _ done).1 :)
  | write16 v t _ _ _ _ writable | writeLow b t _ _ _ _ writable | writeHigh b t _ _ _ _ writable =>
    simp [setReg_hold_of_not_isHold writable]
  | _ => rfl

theorem hostEffect_armed {n : Chan} (changed : u.armed.get n ≠ s.armed.get n) :
    (∃ m, i = .arm m ∧ m.names n = true ∧ u.armed.get n = true) ∨
    (u.armed.get n = false ∧ ((∃ m, i = .disarm m ∧ m.names n = true) ∨ i = .reset)) := by
  cases h with
  | arm m =>
    have named : m.names n = true := by
      by_contra unnamed
      exact changed (by rw [get_setNamed, if_neg unnamed])
    exact .inl ⟨m, rfl, named, by rw [get_setNamed, if_pos named]⟩
  | disarm m =>
    have named : m.names n = true := by
      by_contra unnamed
      exact changed (by rw [get_setNamed, if_neg unnamed])
    exact .inr ⟨by rw [get_setNamed, if_pos named], .inl ⟨m, rfl, named⟩⟩
  | reset => exact .inr ⟨resetState_disarmed s n, .inr rfl⟩
  | load m u idle ready done =>
    exact absurd (congrArg (fun s => s.armed.get n) (transferAll_frame _ done).1) changed
  | write16 v t | writeLow b t | writeHigh b t => exact absurd (by simp) changed
  | _ => exact absurd rfl changed

end HostEffect

/-! ### Armed bits in a count event -/

theorem countEvent_frame {active : State → Chan → Bool} {s u : State} (h : countEvent active s = .ok u) : EventFrame s u :=
  deliver_frame _ (countEvent_eq_ok.mp h).2.2

/-- A count event changes an armed bit by clearing that of a one-shot channel at its terminal count. -/
theorem countEvent_armed {active : State → Chan → Bool} (test : SourceTest active) {s u : State} {n : Chan}
    (h : countEvent active s = .ok u) (changed : u.armed.get n ≠ s.armed.get n) :
    u.armed.get n = false ∧ (s.modeVal n).getLsbD 5 = false := by
  have cleared : u.armed.get n = false := by
    by_contra armed
    rw [Bool.not_eq_false] at armed
    exact changed (armed.trans ((countEvent_frame h).armed n armed).symm)
  have event := countsTheChannels (hit := fun n => active s n = true) test fun _ => Iff.rfl
  by_cases reached : Reached s (fun n => active s n = true) n
  · have counted := event.counted u n h reached
    by_cases last : (s.cnt.get n).val = lastCount s n
    · obtain ⟨-, -, armed, -⟩ := counted.terminal last
      exact ⟨cleared, armed.symm.trans cleared⟩
    · exact absurd (counted.between last).2.1 changed
  · exact absurd (event.uncounted u n h reached).armed changed

/-! ### The counters are seen by SAVE alone -/

theorem reg_withCnt (s : State) (c : PerChan Reg16) (t : Target) : ({ s with cnt := c } : State).reg t = s.reg t := by
  cases t <;> rfl

theorem setReg_withCnt (s : State) (c : PerChan Reg16) (t : Target) (r : Reg16) :
    ({ s with cnt := c } : State).setReg t r = { s.setReg t r with cnt := c } := by
  cases t <;> rfl

theorem setReg_eta_cnt (s : State) (t : Target) (r : Reg16) : { s.setReg t r with cnt := s.cnt } = s.setReg t r := by
  cases t <;> rfl

theorem transferAll_loadable {l : List Chan} {s u : State} (h : transferAll l s = .ok u) : ∀ n ∈ l, Loadable s n := by
  intro n hn
  by_contra unloadable
  obtain ⟨r, hr, -⟩ := transferAll_error_of_not_loadable hn unloadable
  rw [h] at hr
  cases hr

/-- Every effect but that of SAVE is there for any counters, and differs in nothing but the counters. -/
theorem hostEffect_withCnt {s u : State} {i : Instr} (h : HostEffect s i u) (notSave : ∀ m, i ≠ .save m)
    (c : PerChan Reg16) : ∃ v, HostEffect { s with cnt := c } i v ∧ { v with cnt := u.cnt } = u := by
  cases h with
  | select t idle boot => exact ⟨_, .select t idle boot, rfl⟩
  | arm m idle ready => exact ⟨_, .arm m idle ready, rfl⟩
  | disarm m idle ready => exact ⟨_, .disarm m idle ready, rfl⟩
  | save m => exact absurd rfl (notSave m)
  | dummyLoad m idle unready => exact ⟨_, .dummyLoad m idle unready, rfl⟩
  | load m u idle ready done =>
    obtain ⟨v, done', frame, -⟩ := transferAll_of_loadable m.chans { s with cnt := c } fun n hn =>
      have ⟨mode, load, fits⟩ := transferAll_loadable done n hn
      ⟨mode, load, fits⟩
    exact ⟨v, .load m v idle ready done', (congrArg (fun v => { v with cnt := u.cnt }) frame).trans
      (transferAll_frame _ done).1.symm⟩
  | setTc n idle ready => exact ⟨_, .setTc n idle ready, rfl⟩
  | clearTc n idle ready => exact ⟨_, .clearTc n idle ready, rfl⟩
  | reset => exact ⟨_, .reset, rfl⟩
  | write16 v t wide dp boot phase writable =>
    refine ⟨_, .write16 v t wide dp boot phase writable, ?_⟩
    rw [setReg_withCnt, complete_cnt, setReg_cnt]
    exact congrArg (complete true t) (setReg_eta_cnt s t _)
  | read16 t wide dp ready phase =>
    refine ⟨_, .read16 t wide dp ready phase, ?_⟩
    rw [reg_withCnt]
    rfl
  | writeLow b t wide dp boot phase writable =>
    refine ⟨_, .writeLow b t wide dp boot phase writable, ?_⟩
    rw [setReg_withCnt, reg_withCnt, setXfer_cnt, setReg_cnt]
    exact congrArg (·.setXfer .wrHi) (setReg_eta_cnt s t _)
  | writeHigh b t wide dp boot phase writable =>
    refine ⟨_, .writeHigh b t wide dp boot phase writable, ?_⟩
    rw [setReg_withCnt, reg_withCnt, complete_cnt, setReg_cnt]
    exact congrArg (complete true t) (setReg_eta_cnt s t _)
  | readLow t wide dp ready phase =>
    refine ⟨_, .readLow t wide dp ready phase, ?_⟩
    rw [reg_withCnt]
    rfl
  | readHigh t wide dp ready phase =>
    refine ⟨_, .readHigh t wide dp ready phase, ?_⟩
    rw [reg_withCnt]
    rfl
  | stat idle ready => exact ⟨_, .stat idle ready, rfl⟩

/-! ### The protocol invariant -/

theorem whole_of_specified {r : Reg16} (h : r.specified = true) : r.whole := by
  obtain ⟨low, high⟩ := Bool.and_eq_true_iff.mp h
  exact low.trans high.symm

theorem whole_unknown (w : Word) : (Reg16.unknown w).whole := rfl

theorem ready_iff {s : State} : s.ready = true ↔ s.initLd = allChannels ∧ s.initMm = true := by
  rw [State.ready, Bool.and_eq_true, decide_eq_true_iff]

/-- Between transfers the invariant is what it says of boot and that everything is specified whole or not at all. -/
theorem inv_of_idle {s : State} (idle : s.xfer = .idle) (disarmed : s.ready = false → ∀ n, s.armed.get n = false)
    (target : s.ready = false → ∀ t, s.dp = some t → t = .mm ∧ s.initLd = allChannels)
    (order : s.initMm = true → s.initLd = allChannels) (master : s.initMm = true → s.mm.specified = true)
    (registers : ∀ t, (s.reg t).whole) (counters : ∀ n, (s.cnt.get n).whole) : Inv s where
  wide_idle _ := idle
  mid_target mid := absurd idle mid
  write_target mid := by simp [idle] at mid
  read_ready mid := by simp [idle] at mid
  unready_disarmed := disarmed
  unready_target := target
  boot_order := order
  master_known := master
  whole_register t := .inr (registers t)
  whole_counter := counters
  half_written mid := by simp [idle] at mid

/-- Outside a half write every register is whole; within one, every other register is. -/
theorem Inv.whole {s : State} (h : Inv s) {t : Target} (ht : ¬(s.xfer = .wrHi ∧ s.dp = some t)) : (s.reg t).whole :=
  (h.whole_register t).resolve_left ht

/-- MM is selected only after the dummy load of every channel. -/
theorem Inv.loaded_of_mm {s : State} (h : Inv s) (dp : s.dp = some .mm) : s.initLd = allChannels := by
  cases ready : s.ready with
  | true => exact (ready_iff.mp ready).1
  | false => exact (h.unready_target ready .mm dp).2

/-- A completed write of a specified value keeps the invariant. -/
theorem inv_complete_write {s : State} (h : Inv s) {t : Target} (dp : s.dp = some t) {r : Reg16}
    (specified : r.specified = true) : Inv (complete true t (s.setReg t r)) := by
  have other {u : Target} (hu : u ≠ t) : (s.reg u).whole := h.whole fun ⟨_, dp'⟩ => hu (by simpa [dp] using dp'.symm)
  have unready (hr : (complete true t (s.setReg t r)).ready = false) : s.ready = false := by
    by_contra ready
    rw [Bool.not_eq_false, ready_iff] at ready
    rw [← Bool.not_eq_true, ready_iff] at hr
    exact hr ⟨by simp [ready.1], by simp [ready.2]⟩
  refine inv_of_idle rfl (fun hr n => ?_) (fun _ _ none => absurd none nofun) (fun written => ?_) (fun written => ?_)
    (fun u => ?_) fun n => ?_
  · simpa using h.unready_disarmed (unready hr) n
  · rw [complete_initLd, setReg_initLd]
    rw [complete_write_initMm, setReg_initMm] at written
    rcases written with before | rfl
    · exact h.boot_order before
    · exact h.loaded_of_mm dp
  · show ((complete true t (s.setReg t r)).reg .mm).specified = true
    rw [complete_write_initMm, setReg_initMm] at written
    rw [reg_complete, reg_setReg]
    split
    · exact specified
    · rename_i other
      exact h.master_known (written.resolve_right fun e => other e.symm)
  · rw [reg_complete, reg_setReg]
    split
    · exact whole_of_specified specified
    · exact other ‹_›
  · simpa using h.whole_counter n

/-- A completed read keeps the invariant. -/
theorem inv_complete_read {s : State} (h : Inv s) (t : Target) (ready : s.ready = true) (phase : s.xfer ≠ .wrHi)
    (v : Returned) : Inv (complete false t (s.giveBack v)) := by
  have booted : (complete false t (s.giveBack v)).ready = true := by simpa [ready_iff] using ready_iff.mp ready
  exact inv_of_idle rfl (by simp [booted]) (by simp [booted]) (by simpa using h.boot_order) (by simpa using h.master_known)
    (fun u => by simpa using h.whole fun half => phase half.1) h.whole_counter

/-- The low byte of a write starts a half write of the selected register, which keeps the high byte's mark. -/
theorem inv_writeLow {s : State} (h : Inv s) {t : Target} (wide : s.plat.bus16 = false) (dp : s.dp = some t)
    (phase : s.xfer = .idle) (writable : Target.isHold t = false) (b : Byte) :
    Inv ((s.setReg t ((s.reg t).writeLow b)).setXfer .wrHi) := by
  have ready : ((s.setReg t ((s.reg t).writeLow b)).setXfer .wrHi).ready = s.ready := by simp [State.ready]
  have selected {u : Target} (hu : ((s.setReg t ((s.reg t).writeLow b)).setXfer .wrHi).dp = some u) : t = u := by
    simpa [dp] using hu
  refine ⟨fun narrow => ?_, fun _ none => ?_, fun _ n hold => ?_, nofun, fun unready n => ?_, fun unready u hu => ?_,
    by simpa using h.boot_order, fun written => ?_, fun u => ?_, by simpa using h.whole_counter, fun _ u hu => ?_⟩
  · simp [wide] at narrow
  · simp [dp] at none
  · rw [selected hold] at writable
    cases writable
  · simpa using h.unready_disarmed (ready ▸ unready) n
  · obtain rfl := selected hu
    simpa using h.unready_target (ready ▸ unready) t dp
  · show (((s.setReg t ((s.reg t).writeLow b)).setXfer .wrHi).reg .mm).specified = true
    have before : (s.reg .mm).specified = true := h.master_known (by simpa using written)
    rw [reg_setXfer, reg_setReg]
    split
    · rename_i mm
      subst mm
      exact (Bool.and_eq_true_iff.mp before).2
    · exact before
  · by_cases hu : t = u
    · exact .inl ⟨rfl, by simpa [hu] using dp⟩
    · rw [reg_setXfer, reg_setReg_ne s (Ne.symm hu)]
      exact .inr (h.whole fun half => by simp [phase] at half)
  · obtain rfl := selected hu
    rw [reg_setXfer, reg_setReg_same]
    rfl

/-- The low byte of a read starts a half read, which happens only after boot. -/
theorem inv_readLow {s : State} (h : Inv s) {t : Target} (wide : s.plat.bus16 = false) (dp : s.dp = some t)
    (ready : s.ready = true) (phase : s.xfer = .idle) (v : Returned) : Inv ((s.giveBack v).setXfer .rdHi) := by
  have booted {P : Prop} (unready : s.ready = false) : P := by simp [ready] at unready
  refine ⟨fun narrow => ?_, fun _ none => ?_, nofun, fun _ => ready, booted, booted, h.boot_order, h.master_known, fun u => ?_,
    h.whole_counter, nofun⟩
  · simp [wide] at narrow
  · simp [dp] at none
  · rw [reg_setXfer, reg_giveBack]
    exact .inr (h.whole fun half => by simp [phase] at half)

/-- What counting changes is outside the invariant, but for the counters, which it leaves specified. -/
theorem inv_of_frame {s t : State} (frame : EventFrame s t) (h : Inv s) : Inv t := by
  have ready : t.ready = s.ready := by rw [State.ready, State.ready, frame.initLd, frame.initMm]
  have reg (r : Target) : t.reg r = s.reg r := by
    cases r <;> simp only [State.reg, frame.mode, frame.load, frame.hold, frame.mm]
  refine ⟨?_, ?_, ?_, ?_, fun unready n => ?_, ?_, ?_, ?_, ?_, fun n => ?_, ?_⟩
  · rw [frame.plat, frame.xfer]; exact h.wide_idle
  · rw [frame.xfer, frame.dp]; exact h.mid_target
  · rw [frame.xfer, frame.dp]; exact h.write_target
  · rw [frame.xfer, ready]; exact h.read_ready
  · by_contra armed
    rw [Bool.not_eq_false] at armed
    simpa [h.unready_disarmed (ready ▸ unready) n] using frame.armed n armed
  · rw [ready, frame.dp, frame.initLd]; exact h.unready_target
  · rw [frame.initMm, frame.initLd]; exact h.boot_order
  · rw [frame.initMm, frame.mm]; exact h.master_known
  · simp only [frame.xfer, frame.dp, reg]; exact h.whole_register
  · rcases frame.cnt n with same | known
    · rw [same]; exact h.whole_counter n
    · exact whole_of_specified known
  · simp only [frame.xfer, frame.dp, reg]; exact h.half_written

/-- The schedule, the prescaler and the gate lines are outside the invariant. -/
theorem inv_outside {s : State} (h : Inv s) (p : Word) (g : PerChan Latch) (rest : List Input) :
    Inv { s with psc := p, gateIn := g, schedule := rest } :=
  { h with whole_register := fun t => by cases t <;> exact h.whole_register _
           half_written := fun mid t => by cases t <;> exact h.half_written mid _ }

/-- Every host operation keeps the invariant. -/
theorem inv_of_effect {s u : State} {i : Instr} (h : Inv s) (effect : HostEffect s i u) : Inv u := by
  have whole (idle : s.xfer = .idle) (t : Target) : (s.reg t).whole := h.whole fun half => by simp [idle] at half
  cases effect with
  | select t idle boot =>
    refine inv_of_idle idle h.unready_disarmed (fun (unready : s.ready = false) u hu => ?_) h.boot_order h.master_known (whole idle)
      h.whole_counter
    obtain rfl : t = u := Option.some.inj hu
    exact boot.resolve_left (by simp [unready])
  | arm m idle ready =>
    have booted {P : Prop} (unready : s.ready = false) : P := by simp [ready] at unready
    exact inv_of_idle idle booted booted h.boot_order h.master_known (whole idle) h.whole_counter
  | disarm m idle ready =>
    have booted {P : Prop} (unready : s.ready = false) : P := by simp [ready] at unready
    exact inv_of_idle idle booted booted h.boot_order h.master_known (whole idle) h.whole_counter
  | save m idle ready =>
    refine inv_of_idle idle h.unready_disarmed h.unready_target h.boot_order h.master_known (fun t => ?_) h.whole_counter
    cases t with
    | hold n =>
      show ((setNamed s.hold m _).get n).whole
      rw [get_setNamed]
      split
      · exact h.whole_counter n
      · exact whole idle (.hold n)
    | mode n => exact whole idle (.mode n)
    | load n => exact whole idle (.load n)
    | mm => exact whole idle .mm
  | dummyLoad m idle unready =>
    have all (loaded : s.initLd = allChannels) : s.initLd ||| m = allChannels := by
      rw [loaded]
      revert m; decide
    refine inv_of_idle idle (fun _ => h.unready_disarmed unready)
      (fun _ t ht => (h.unready_target unready t ht).imp_right all) (fun written => all (h.boot_order written))
      h.master_known (whole idle) fun n => ?_
    rw [dummyLoad, get_setNamed]
    split
    · exact whole_unknown _
    · exact h.whole_counter n
  | load m u idle ready done =>
    obtain ⟨frame, counters⟩ := transferAll_frame _ done
    rw [frame]
    refine inv_of_idle idle h.unready_disarmed h.unready_target h.boot_order h.master_known (whole idle) fun n => ?_
    rcases counters n with same | known
    · rw [same]; exact h.whole_counter n
    · exact whole_of_specified known
  | setTc n idle ready | clearTc n idle ready =>
    exact inv_of_idle idle h.unready_disarmed h.unready_target h.boot_order h.master_known (whole idle) h.whole_counter
  | reset =>
    refine inv_of_idle rfl (fun _ => resetState_disarmed s) (fun _ _ none => absurd none nofun) nofun nofun (fun t => ?_)
      fun n => ?_
    · obtain ⟨k, hk⟩ := reg_resetState s t
      rw [hk]
      exact whole_unknown _
    · rw [resetState_cnt]
      exact whole_unknown _
  | write16 v t wide dp boot phase writable => exact inv_complete_write h dp (specified_known v)
  | read16 t wide dp ready phase => exact inv_complete_read h t ready phase _
  | writeLow b t wide dp boot phase writable => exact inv_writeLow h wide dp phase writable b
  | writeHigh b t wide dp boot phase writable =>
    refine inv_complete_write h dp (Bool.and_eq_true_iff.mpr ⟨?_, rfl⟩)
    exact h.half_written phase t dp
  | readLow t wide dp ready phase => exact inv_readLow h wide dp ready phase _
  | readHigh t wide dp ready phase => exact inv_complete_read h t ready (by simp [phase]) _
  | stat idle ready =>
    exact inv_of_idle idle h.unready_disarmed h.unready_target h.boot_order h.master_known (whole idle) h.whole_counter

end Sys2Proof.Machine

namespace Sys2Proof.Proofs

open Sys2Proof.Machine Sys2Proof.Claims

/-! ### The protocol invariant -/

/-- Settles O36: each host effect keeps the invariant, and so does what an event or a gate step can change. -/
theorem everyStepKeepsTheInvariant : Obligations.EveryStepKeepsTheInvariant := by
  intro s u inv h
  rcases step_cases h with ⟨a, rest, i, -, -, run⟩ | ⟨rest, -, tick⟩ | ⟨k, pol, rest, -, edge⟩ | ⟨k, v, rest, -, gate⟩
  · exact inv_of_effect (inv_outside inv s.psc s.gateIn rest) (exec_effect run)
  · exact inv_of_frame (clkTick_frame tick) (inv_outside inv (s.psc + 1#16) s.gateIn rest)
  · exact inv_of_frame (srcEdge_frame edge) (inv_outside inv s.psc s.gateIn rest)
  · obtain ⟨-, rfl⟩ := gateSet_eq_ok.mp gate
    exact inv_outside inv s.psc (s.gateIn.set k (.is v)) rest

/-- Settles O37: after reset no channel is armed, nothing is selected and nothing is specified. -/
theorem resetStateMeetsTheInvariant : Obligations.ResetStateMeetsTheInvariant := by
  refine inv_of_idle rfl (fun _ n => ?_) nofun nofun nofun (fun t => ?_) fun n => ?_
  · cases n <;> rfl
  · cases t with
    | mm => rfl
    | mode n => cases n <;> rfl
    | load n => cases n <;> rfl
    | hold n => cases n <;> rfl
  · cases n <;> rfl

/-! ### Before boot and between two bytes -/

/-- Settles O29, effect by effect: every other operation needs `Ready`. -/
theorem onlyTheBootSequenceBeforeReady : Obligations.OnlyTheBootSequenceBeforeReady := by
  intro i s u unready h
  have booted {P : Prop} (ready : s.ready = true) : P := by simp [unready] at ready
  have writesMm {t : Target} (dp : s.dp = some t) (boot : s.ready = true ∨ t = .mm) : s.dp = some .mm := by
    rw [dp, boot.resolve_left (by simp [unready])]
  cases exec_effect h with
  | select t idle boot =>
    obtain ⟨rfl, loaded⟩ := boot.resolve_left (by simp [unready])
    exact .inr (.inr (.inl ⟨rfl, loaded⟩))
  | dummyLoad m idle unready => exact .inr (.inl ⟨m, rfl⟩)
  | reset => exact .inl rfl
  | write16 v t wide dp boot => exact .inr (.inr (.inr ⟨writesMm dp boot, .inl ⟨v, rfl⟩⟩))
  | writeLow b t wide dp boot | writeHigh b t wide dp boot =>
    exact .inr (.inr (.inr ⟨writesMm dp boot, .inr ⟨b, rfl⟩⟩))
  | arm m idle ready | disarm m idle ready | save m idle ready | load m u idle ready | setTc n idle ready
  | clearTc n idle ready | read16 t wide dp ready | readLow t wide dp ready | readHigh t wide dp ready
  | stat idle ready => exact booted ready

/-- Settles O30, effect by effect: a second byte needs its phase, RESET needs nothing, and every other operation of an 8-bit bus needs
`Idle`. -/
theorem onlyTheSecondByteMidTransfer : Obligations.OnlyTheSecondByteMidTransfer := by
  intro i s u narrow mid h
  cases exec_effect h with
  | reset => exact .inl rfl
  | writeHigh b t wide dp boot phase => exact .inr (.inl ⟨phase, b, rfl⟩)
  | readHigh t wide dp ready phase => exact .inr (.inr ⟨phase, rfl⟩)
  | write16 v t wide | read16 t wide => simp [narrow] at wide
  | writeLow b t wide dp boot phase | readLow t wide dp ready phase => exact absurd phase mid
  | select t idle | arm m idle | disarm m idle | save m idle | dummyLoad m idle | load m u idle | setTc n idle
  | clearTc n idle | stat idle => exact absurd idle mid

/-! ### Who changes what -/

/-- Settles O31: events keep the hold registers, and so does every host effect but those of SAVE and RESET. -/
theorem holdChangesOnlyBySaveOrReset : Obligations.HoldChangesOnlyBySaveOrReset := by
  intro s u h changed
  rcases step_cases h with ⟨a, rest, i, hs, ha, run⟩ | ⟨rest, -, tick⟩ | ⟨k, pol, rest, -, edge⟩ | ⟨k, v, rest, -, gate⟩
  · refine ⟨a, rest, i, hs, ha, ?_⟩
    by_contra other
    rw [not_or, not_exists] at other
    exact changed (hostEffect_hold (s := { s with schedule := rest }) (exec_effect run) other.1 other.2)
  · exact absurd (clkTick_frame tick).hold changed
  · exact absurd (srcEdge_frame edge).hold changed
  · obtain ⟨-, rfl⟩ := gateSet_eq_ok.mp gate
    exact absurd rfl changed

/-- Settles O32: the host effects that touch an armed bit, and the terminal count of a one-shot channel. -/
theorem armedChangesOnlyAsListed : Obligations.ArmedChangesOnlyAsListed := by
  intro s u n h changed
  rcases step_cases h with ⟨a, rest, i, hs, ha, run⟩ | ⟨rest, hs, tick⟩ | ⟨k, pol, rest, hs, edge⟩ | ⟨k, v, rest, -, gate⟩
  · rcases hostEffect_armed (exec_effect run) changed with ⟨m, rfl, named, armed⟩ | ⟨cleared, ⟨m, rfl, named⟩ | rfl⟩
    · exact .inl ⟨a, rest, m, hs, ha, named, armed⟩
    · exact .inr ⟨cleared, .inl ⟨a, rest, m, hs, ha, named⟩⟩
    · exact .inr ⟨cleared, .inr (.inl ⟨a, rest, hs, ha⟩)⟩
  · obtain ⟨cleared, oneShot⟩ := countEvent_armed sourceTest_tickActive tick changed
    refine .inr ⟨cleared, .inr (.inr ⟨fun a r => ?_, fun k v r => ?_, oneShot⟩)⟩ <;>
      rcases hs with ⟨hs, -⟩ | hs <;> simp [hs]
  · obtain ⟨cleared, oneShot⟩ := countEvent_armed (sourceTest_lineActive k pol) edge changed
    exact .inr ⟨cleared, .inr (.inr ⟨by simp [hs], by simp [hs], oneShot⟩)⟩
  · obtain ⟨-, rfl⟩ := gateSet_eq_ok.mp gate
    exact absurd rfl changed

/-- Settles O33: the frame of a count event, and the one line a gate step writes. -/
theorem environmentWritesOnlyCountingState : Obligations.EnvironmentWritesOnlyCountingState := by
  intro s u h environment
  rcases step_cases h with ⟨a, rest, i, hs, -, -⟩ | ⟨rest, hs, tick⟩ | ⟨k, pol, rest, hs, edge⟩ | ⟨k, v, rest, hs, gate⟩
  · exact absurd hs (environment a rest)
  · have f := clkTick_frame tick
    refine ⟨f.load, f.hold, f.mode, f.mm, f.dp, f.xfer, f.initLd, f.initMm, f.plat, f.returned, f.armed, f.history,
      fun _ => f.gateIn, fun _ => f.psc, fun some other => ?_⟩
    rcases hs with ⟨hs, -⟩ | hs
    · exact absurd hs some
    · exact absurd hs (other rest)
  · have f := srcEdge_frame edge
    refine ⟨f.load, f.hold, f.mode, f.mm, f.dp, f.xfer, f.initLd, f.initMm, f.plat, f.returned, f.armed, f.history,
      fun _ => f.gateIn, fun ticks => ?_, fun _ _ => f.psc⟩
    simp [hs] at ticks
  · obtain ⟨-, rfl⟩ := gateSet_eq_ok.mp gate
    refine ⟨rfl, rfl, rfl, rfl, rfl, rfl, rfl, rfl, rfl, rfl, fun _ => id, ⟨[], (List.append_nil _).symm⟩,
      fun other => absurd hs (other k v rest), fun ticks => ?_, fun _ _ => rfl⟩
    simp [hs] at ticks

/-- Settles O34: neither a host effect nor an event nor a gate step writes the platform. -/
theorem platformIsConstant : Obligations.PlatformIsConstant := by
  intro s u h
  rcases step_cases h with ⟨a, rest, i, -, -, run⟩ | ⟨rest, -, tick⟩ | ⟨k, pol, rest, -, edge⟩ | ⟨k, v, rest, -, gate⟩
  · exact hostEffect_plat (s := { s with schedule := rest }) (exec_effect run)
  · exact (clkTick_frame tick).plat
  · exact (srcEdge_frame edge).plat
  · obtain ⟨-, rfl⟩ := gateSet_eq_ok.mp gate
    rfl

/-- Settles O35: no effect but that of SAVE reads a counter. -/
theorem hostSeesTheCountOnlyThroughSave : Obligations.HostSeesTheCountOnlyThroughSave := by
  intro i s u c notSave h
  obtain ⟨v, effect, same⟩ := hostEffect_withCnt (exec_effect h) notSave c
  exact ⟨v, exec_of_effect effect, same⟩

end Sys2Proof.Proofs

/-! ## Programs of the host (30_encoding.md section 6, 40_register_access.md, 70_reset_and_hazards.md section 2)

A list of instructions run as port accesses through `step` is the list run by `exec`, since no operation reads the schedule. From this
come the two bus widths as one write, a register that is written and read back, and the boot sequence. -/

namespace Sys2Proof.Machine

open Claims

/-! ### No operation reads the schedule -/

theorem setReg_withInputs (s : State) (l : List Input) (t : Target) (r : Reg16) :
    (s.withInputs l).setReg t r = (s.setReg t r).withInputs l := by
  cases t <;> rfl

theorem reg_withInputs (s : State) (l : List Input) (t : Target) : (s.withInputs l).reg t = s.reg t := by
  cases t <;> rfl

theorem transferAll_withInputs (l : List Input) : ∀ (ns : List Chan) {s u : State}, transferAll ns s = .ok u →
    transferAll ns (s.withInputs l) = .ok (u.withInputs l)
  | [], s, u, h => by cases h; rfl
  | n :: ns, s, u, h => by
    have loadable := transferAll_loadable h n List.mem_cons_self
    have loadable' : Loadable (s.withInputs l) n := ⟨loadable.mode, loadable.load, loadable.fits⟩
    rw [transferAll, transfer_of_loadable loadable] at h
    rw [transferAll, transfer_of_loadable loadable']
    exact transferAll_withInputs l ns h

theorem hostEffect_withInputs {s u : State} {i : Instr} (l : List Input) (h : HostEffect s i u) :
    HostEffect (s.withInputs l) i (u.withInputs l) := by
  cases h with
  | select t idle boot => exact .select t idle boot
  | arm m idle ready => exact .arm m idle ready
  | disarm m idle ready => exact .disarm m idle ready
  | save m idle ready => exact .save m idle ready
  | dummyLoad m idle unready => exact .dummyLoad m idle unready
  | load m u idle ready done => exact .load m _ idle ready (transferAll_withInputs l _ done)
  | setTc n idle ready => exact .setTc n idle ready
  | clearTc n idle ready => exact .clearTc n idle ready
  | reset => exact .reset
  | write16 v t wide dp boot phase writable =>
    have effect := HostEffect.write16 (s := s.withInputs l) v t wide dp boot phase writable
    rw [setReg_withInputs] at effect
    exact effect
  | read16 t wide dp ready phase =>
    have effect := HostEffect.read16 (s := s.withInputs l) t wide dp ready phase
    rw [reg_withInputs] at effect
    exact effect
  | writeLow b t wide dp boot phase writable =>
    have effect := HostEffect.writeLow (s := s.withInputs l) b t wide dp boot phase writable
    rw [setReg_withInputs, reg_withInputs] at effect
    exact effect
  | writeHigh b t wide dp boot phase writable =>
    have effect := HostEffect.writeHigh (s := s.withInputs l) b t wide dp boot phase writable
    rw [setReg_withInputs, reg_withInputs] at effect
    exact effect
  | readLow t wide dp ready phase =>
    have effect := HostEffect.readLow (s := s.withInputs l) t wide dp ready phase
    rw [reg_withInputs] at effect
    exact effect
  | readHigh t wide dp ready phase =>
    have effect := HostEffect.readHigh (s := s.withInputs l) t wide dp ready phase
    rw [reg_withInputs] at effect
    exact effect
  | stat idle ready => exact .stat idle ready

theorem exec_withInputs {s u : State} {i : Instr} (l : List Input) (h : exec i s = .next u) :
    exec i (s.withInputs l) = .next (u.withInputs l) :=
  exec_of_effect (hostEffect_withInputs l (exec_effect h))

/-! ### Runs -/

theorem run_succ {k : Nat} {s t : State} (h : step s = .next t) :
    Host.Core.run core (k + 1) s = Host.Core.run core k t := by
  have hcore : core.step s = .next t := h
  simp only [Host.Core.run, hcore]

/-- The instructions of a list, run by `exec` one after the other without refusal. -/
inductive Runs : List Instr → State → State → Prop where
  | nil (s : State) : Runs [] s s
  | cons {i : Instr} {p : List Instr} {s t u : State} (first : exec i s = .next t) (rest : Runs p t u) :
      Runs (i :: p) s u

theorem Runs.append {p q : List Instr} {s t u : State} (hp : Runs p s t) (hq : Runs q t u) : Runs (p ++ q) s u := by
  induction hp with
  | nil s => exact hq
  | cons first _ ih => exact .cons first (ih hq)

theorem Runs.plat {p : List Instr} {s u : State} (h : Runs p s u) : u.plat = s.plat := by
  induction h with
  | nil s => rfl
  | cons first _ ih => exact ih.trans (hostEffect_plat (exec_effect first))

/-- Port accesses placed before the schedule run the instructions they carry. -/
theorem run_hostInputs {p : List Instr} {s u : State} (h : Runs p s u) :
    Host.Core.run core p.length (s.withInputs (hostInputs s.plat.base p)) = .next u := by
  induction h with
  | nil s => rfl
  | @cons i p s t u first rest ih =>
    have base : t.plat.base = s.plat.base := congrArg Platform.base (hostEffect_plat (exec_effect first))
    have head : step (s.withInputs (hostInputs s.plat.base (i :: p))) =
        .next (t.withInputs (hostInputs s.plat.base p)) :=
      (step_host_op (s := s.withInputs (hostInputs s.plat.base (i :: p))) rfl
        (Proofs.decodeOfEncodeIsTheInstruction s.plat.base i)).trans (exec_withInputs _ first)
    rw [List.length_cons, run_succ head, ← base]
    exact ih

/-! ### A word over either bus (R42, R76) -/

theorem setReg_setReg (s : State) (t : Target) (r r' : Reg16) : (s.setReg t r).setReg t r' = s.setReg t r' := by
  cases t <;> simp [State.setReg, State.setMode, State.setLoad, State.setHold, State.setMm]

theorem setReg_setXfer (s : State) (p : Phase) (t : Target) (r : Reg16) :
    (s.setXfer p).setReg t r = (s.setReg t r).setXfer p := by
  cases t <;> rfl

/-- The two bytes of a write leave what the word leaves. -/
theorem complete_writeHigh_writeLow (s : State) (t : Target) (lo hi : Byte) :
    complete true t (((s.setReg t ((s.reg t).writeLow lo)).setXfer .wrHi).setReg t
      ((((s.setReg t ((s.reg t).writeLow lo)).setXfer .wrHi).reg t).writeHigh hi)) =
    complete true t (s.setReg t (.known (Word.ofBytes hi lo))) := by
  rw [setReg_setXfer, setReg_setReg, reg_setXfer, reg_setReg_same, writeHigh_writeLow]
  rfl

section Word

variable {s : State} {t : Target}

theorem exec_twoBytes (narrow : s.plat.bus16 = false) (dp : s.dp = some t) (boot : s.ready = true ∨ t = .mm)
    (idle : s.xfer = .idle) (writable : Target.isHold t = false) (lo hi : Byte) :
    ∃ u, exec (.dw8 lo) s = .next u ∧
      exec (.dw8 hi) u = .next (complete true t (s.setReg t (.known (Word.ofBytes hi lo)))) := by
  refine ⟨_, exec_dw8_low narrow dp boot idle writable lo, ?_⟩
  rw [← complete_writeHigh_writeLow]
  refine exec_dw8_high ?_ ?_ (boot.imp_left fun ready => ?_) rfl writable hi
  · simpa using narrow
  · simpa using dp
  · simpa [ready_iff] using ready_iff.mp ready

/-- A word written over either bus is stored in the selected register, which completes the transfer. -/
theorem runs_writeWord (dp : s.dp = some t) (boot : s.ready = true ∨ t = .mm) (idle : s.xfer = .idle)
    (writable : Target.isHold t = false) (w : Word) :
    Runs (writeWord s.plat.bus16 w) s (complete true t (s.setReg t (.known w))) := by
  cases wide : s.plat.bus16 with
  | true => exact .cons (exec_dw16 wide dp boot (by simp [idle]) writable w) (.nil _)
  | false =>
    obtain ⟨u, low, high⟩ := exec_twoBytes wide dp boot idle writable w.low w.high
    rw [Word.ofBytes_high_low] at high
    exact .cons low (.cons high (.nil _))

end Word

end Sys2Proof.Machine

namespace Sys2Proof.Proofs

open Sys2Proof.Machine Sys2Proof.Claims

theorem portFrame_trans {s t u : State} (a : PortFrame s t) (b : PortFrame t u) : PortFrame s u :=
  ⟨b.plat.trans a.plat, b.cnt.trans a.cnt, b.hold.trans a.hold, b.armed.trans a.armed, b.tgl.trans a.tgl,
    b.psc.trans a.psc, b.gateIn.trans a.gateIn, b.initLd.trans a.initLd, b.history.trans a.history,
    b.schedule.trans a.schedule⟩

/-- A specified register read over either bus is returned, as a word or as its two bytes, and no register changes. -/
theorem runs_readWord {s : State} {t : Target} {w : Word} (dp : s.dp = some t) (ready : s.ready = true)
    (idle : s.xfer = .idle) (holds : s.reg t = .known w) :
    ∃ u, Runs (readWord s.plat.bus16) s u ∧
      u.returned = s.returned ++ (if s.plat.bus16 then [.data16 w] else [.data8 w.low, .data8 w.high]) ∧
      (∀ r, u.reg r = s.reg r) ∧ u.dp = none ∧ u.xfer = .idle ∧ PortFrame s u := by
  cases wide : s.plat.bus16 with
  | true =>
    obtain ⟨u, v, run, returned, value, regs, dp', xfer, -, frame⟩ :=
      dataRead16ReturnsTheWord.1 t s wide dp ready (by simp [idle])
    obtain rfl : v = w := by rw [value (by rw [holds]; rfl), holds]; rfl
    exact ⟨u, .cons run (.nil u), returned, regs, dp', xfer, frame⟩
  | false =>
    obtain ⟨u, b, run, returned, regs, initMm, frame, low, -⟩ :=
      dataRead8ReturnsLowThenHigh.1 t s wide dp ready (by simp [idle])
    obtain ⟨value, dp', xfer⟩ := low idle
    have ready' : u.ready = true := ready_iff.mpr ⟨frame.initLd.trans (ready_iff.mp ready).1,
      initMm.trans (ready_iff.mp ready).2⟩
    have wide' : u.plat.bus16 = false := by rw [frame.plat, wide]
    obtain ⟨v, b', run', returned', regs', -, frame', -, high⟩ :=
      dataRead8ReturnsLowThenHigh.1 t u wide' dp' ready' (by simp [xfer])
    obtain ⟨value', dp'', xfer'⟩ := high xfer
    rw [regs, holds] at value'
    rw [holds] at value
    refine ⟨v, .cons run (.cons run' (.nil v)), ?_, fun r => (regs' r).trans (regs r), dp'', xfer',
      portFrame_trans frame frame'⟩
    rw [returned', returned, value rfl, value' rfl, List.append_assoc]
    rfl

/-- Settles O18: both ways of writing complete the write of the same word, and the platform is apart from all they change. -/
theorem twoByteWritesAreOneWordWrite : Obligations.TwoByteWritesAreOneWordWrite := by
  intro lo hi t s narrow dp boot idle writable
  obtain ⟨u, low, high⟩ := exec_twoBytes narrow dp boot idle writable lo hi
  have wide := exec_dw16 (s := { s with plat := { s.plat with bus16 := true } }) (t := t) rfl dp boot (by simp [idle])
    writable (Word.ofBytes hi lo)
  refine ⟨u, _, _, low, high, wide, ?_⟩
  cases t <;> rfl

/-- SELECT t and a word written to it: after boot, or for MM after the dummy load, which it completes. -/
theorem runs_select_write {s : State} {t : Target} (boot : s.ready = true ∨ (t = .mm ∧ s.initLd = allChannels))
    (idle : s.xfer = .idle) (writable : Target.isHold t = false) (w : Word) :
    ∃ u, Runs (Instr.select t :: writeWord s.plat.bus16 w) s u ∧ u.ready = true ∧ u.reg t = .known w ∧
      (∀ r, r ≠ t → u.reg r = s.reg r) ∧ u.returned = s.returned ∧ u.dp = none ∧ u.xfer = .idle ∧ PortFrame s u := by
  have select : exec (Instr.select t) s = .next { s with dp := some t } := exec_of_effect (.select t idle boot)
  have write := runs_writeWord (s := { s with dp := some t }) rfl (boot.imp_right And.left) idle writable w
  refine ⟨_, .cons select write, ready_iff.mpr ⟨?_, ?_⟩, ?_, fun r hr => ?_, ?_, rfl, rfl, ?_⟩
  · rw [complete_initLd, setReg_initLd]
    exact boot.elim (fun ready => (ready_iff.mp ready).1) And.right
  · rw [complete_write_initMm, setReg_initMm]
    exact boot.imp (fun ready => (ready_iff.mp ready).2) And.left
  · rw [reg_complete, reg_setReg_same]
  · rw [reg_complete, reg_setReg_ne _ hr]
    cases r <;> rfl
  · rw [complete_returned, setReg_returned]
  · have frame : PortFrame s { s with dp := some t } := ⟨rfl, rfl, rfl, rfl, rfl, rfl, rfl, rfl, rfl, rfl⟩
    exact portFrame_trans frame (portFrame_complete (portFrame_setReg writable _ _) true t)

/-- Settles O19: SELECT and a word written, SELECT and a word read. -/
theorem writtenRegisterReadsBack : Obligations.WrittenRegisterReadsBack := by
  intro w t s ready idle writable
  obtain ⟨u, write, ready', holds, others, returned, -, idle', frame⟩ :=
    runs_select_write (t := t) (.inl ready) idle writable w
  have select : exec (Instr.select t) u = .next { u with dp := some t } := exec_of_effect (.select t idle' (.inl ready'))
  have regs (r : Target) : ({ u with dp := some t } : State).reg r = u.reg r := by cases r <;> rfl
  obtain ⟨v, read, returned', regs', dp, idle'', frame'⟩ :=
    runs_readWord (s := { u with dp := some t }) rfl ready' idle' ((regs t).trans holds)
  have unchanged : PortFrame u { u with dp := some t } := ⟨rfl, rfl, rfl, rfl, rfl, rfl, rfl, rfl, rfl, rfl⟩
  have bus : ({ u with dp := some t } : State).plat.bus16 = s.plat.bus16 := congrArg Platform.bus16 frame.plat
  rw [bus] at read returned'
  refine ⟨v, run_hostInputs (write.append (.cons select read)), ?_, ?_, fun r hr => ?_, dp, idle'',
    portFrame_trans frame (portFrame_trans unchanged frame')⟩
  · rw [returned']
    exact congrArg (· ++ _) returned
  · rw [regs', regs, holds]
  · rw [regs', regs, others r hr]

/-- Settles O52: RESET leaves the block idle and not ready, the dummy load of every channel lets MM be selected, and the write of MM
makes it ready. -/
theorem bootSequenceMakesReady : Obligations.BootSequenceMakesReady := by
  intro s v
  have reset : exec .reset s = .next (resetState s) := rfl
  have load : exec (.load 0x1F#5) (resetState s) = .next (dummyLoad 0x1F#5 (resetState s)) :=
    exec_dummyLoad rfl rfl
  have loaded : 0#5 ||| 0x1F#5 = allChannels := by decide
  obtain ⟨u, write, ready, holds, -, -, dp, idle, frame⟩ :=
    runs_select_write (s := dummyLoad 0x1F#5 (resetState s)) (t := .mm) (.inr ⟨rfl, loaded⟩) rfl rfl v
  exact ⟨u, run_hostInputs (.cons reset (.cons load write)), ready, holds, dp, idle,
    fun n => by rw [frame.armed]; exact resetState_disarmed s n, frame.gateIn, frame.plat, frame.schedule⟩

end Sys2Proof.Proofs

/-! ## Runs of count events (42_counting.md sections 7 to 9)

`Steps input k s t`: k inputs of one kind lead from `s` to `t`, whatever is scheduled after them. What one event does to a channel that is
alone armed, or to a cascaded pair, is put together by trajectories: a state for each number of events. -/

namespace Sys2Proof.Machine

open Claims

/-! ### Equal inputs one after the other -/

theorem run_add {k j : Nat} {s t : State} (h : Host.Core.run core k s = .next t) :
    Host.Core.run core (k + j) s = Host.Core.run core j t := by
  induction k generalizing s with
  | zero =>
    cases h
    rw [Nat.zero_add]
  | succ k ih =>
    rw [Nat.add_right_comm]
    cases hs : step s with
    | next u =>
      rw [run_succ hs] at h ⊢
      exact ih h
    | fault r => cases r
    | refused r =>
      have hcore : core.step s = .refused r := hs
      simp only [Host.Core.run, hcore] at h
      cases h

/-- k inputs of one kind lead from `s` to `t`, whatever comes after them. -/
def Steps (input : Input) (k : Nat) (s t : State) : Prop :=
  ∀ rest, Host.Core.run core k (s.withInputs (List.replicate k input ++ rest)) = .next (t.withInputs rest)

theorem Steps.run {input : Input} {k : Nat} {s t : State} (h : Steps input k s t) :
    Host.Core.run core k (s.withInputs (List.replicate k input)) = .next t := by
  have h := h []
  rw [List.append_nil] at h
  exact h

theorem steps_refl (input : Input) (s : State) : Steps input 0 s s := fun _ => rfl

theorem Steps.trans {input : Input} {k j : Nat} {s t u : State} (h : Steps input k s t) (h' : Steps input j t u) :
    Steps input (k + j) s u := by
  intro rest
  rw [List.replicate_add, List.append_assoc, run_add (h _)]
  exact h' rest

/-- A trajectory: a state after each block of b inputs. -/
theorem steps_trajectory {input : Input} {b k : Nat} (f : Nat → State)
    (h : ∀ j, j < k → Steps input b (f j) (f (j + 1))) : Steps input (k * b) (f 0) (f k) := by
  induction k with
  | zero =>
    rw [Nat.zero_mul]
    exact steps_refl input (f 0)
  | succ k ih =>
    rw [Nat.succ_mul]
    exact (ih fun j hj => h j (by omega)).trans (h k (by omega))

theorem steps_srcEdge {k : Chan} {pol : Pol} {s t : State}
    (h : ∀ rest, srcEdge k pol (s.withInputs rest) = .ok (t.withInputs rest)) : Steps (.srcEdge k pol) 1 s t := by
  intro rest
  refine run_succ ((step_srcEdge rfl).trans ?_)
  exact outcome_eq_next.mpr (h rest)

theorem steps_clkTick {s t : State} (h : ∀ rest, clkTick (s.withInputs rest) = .ok (t.withInputs rest)) :
    Steps .clkTick 1 s t := by
  intro rest
  refine run_succ ((step_clkTick rfl).trans ?_)
  exact outcome_eq_next.mpr (h rest)

/-! ### The counter's values on the way to the terminal count (R127) -/

theorem countedBy_zero (up : Bool) (v : Word) : countedBy up v 0 = v := by
  cases up <;> simp [countedBy]

theorem stepValue_countedBy (up : Bool) (v : Word) (j : Nat) :
    stepValue up (countedBy up v j) = countedBy up v (j + 1) := by
  cases up
  · show v - BitVec.ofNat 16 j - 1#16 = v - BitVec.ofNat 16 (j + 1)
    rw [BitVec.ofNat_add, BitVec.sub_sub]
  · show v + BitVec.ofNat 16 j + 1#16 = v + BitVec.ofNat 16 (j + 1)
    rw [BitVec.ofNat_add, BitVec.add_assoc]

/-- Up to `countsToGo` counts the distance to the last value falls by one a count. -/
theorem countsToGo_countedBy {up : Bool} {v : Word} {j : Nat} (h : j ≤ countsToGo up v) :
    countsToGo up (countedBy up v j) = countsToGo up v - j := by
  have lt := v.isLt
  cases up
  · have h : j ≤ v.toNat := h
    show (v - BitVec.ofNat 16 j).toNat = v.toNat - j
    rw [BitVec.toNat_sub_of_le]
    · rw [BitVec.toNat_ofNat, Nat.mod_eq_of_lt (by omega)]
    · rw [BitVec.le_def, BitVec.toNat_ofNat, Nat.mod_eq_of_lt (by omega)]
      exact h
  · have h : j ≤ 65535 - v.toNat := h
    show 65535 - (v + BitVec.ofNat 16 j).toNat = 65535 - v.toNat - j
    rw [BitVec.toNat_add, BitVec.toNat_ofNat, Nat.mod_eq_of_lt (a := j) (by omega), Nat.mod_eq_of_lt (by omega)]
    omega

theorem eq_lastCount_iff {s : State} {n : Chan} {v : Word} :
    v = lastCount s n ↔ countsToGo (modeUp (s.modeVal n)) v = 0 := by
  have lt := v.isLt
  rw [lastCount, modeUp_def, countsToGo]
  split
  · rw [← BitVec.toNat_inj]
    show v.toNat = 65535 ↔ _
    omega
  · rw [← BitVec.toNat_inj]
    exact Iff.rfl

/-! ### One event on a channel that is alone armed -/

theorem passOn_disarmed {g : PerChan Bool} {above : List Chan} {u : State} (h : ∀ m ∈ above, u.armed.get m = false) :
    passOn g above u = .ok u := by
  cases above with
  | nil => rfl
  | cons m above => exact if_neg fun feed => by simp [h m List.mem_cons_self] at feed

section Alone

variable {active : State → Chan → Bool} {s : State} {n : Chan}

/-- A terminal count where no other channel is armed feeds none. -/
theorem count_terminal_only {g : PerChan Bool} (only : OnlyArmed s n) (ticking : Ticking g s n)
    (last : (s.cnt.get n).val = lastCount s n) (loadable : Loadable s n) :
    count n.upFrom g s = .ok (afterTerminal n s) := by
  have nodup := Chan.upFrom_nodup n
  rw [Chan.upFrom_eq, List.nodup_cons] at nodup
  rw [Chan.upFrom_eq, count_terminal ticking last (terminalCount_of_loadable loadable)]
  refine passOn_disarmed fun m hm => ?_
  have hne : m ≠ n := fun e => nodup.1 (e ▸ hm)
  rw [(uncounted_afterTerminal hne s).armed, only.2 m hne]

variable (test : SourceTest active) (only : OnlyArmed s n) (ok : s.modeOK n = true)
include test only ok

theorem event_miss (gate : (s.gateOK n).isSome = true) (miss : active s n = false) : countEvent active s = .ok s := by
  rw [countEvent_only test only ok gate, if_neg (by simp [miss])]

theorem event_gated_off (gate : s.gateOK n = some false) : countEvent active s = .ok s := by
  have closed : s.gates.get n = false := by
    rw [← Bool.not_eq_true, gates_eq_true, gate]
    simp
  rw [countEvent_only test only ok (by simp [gate])]
  split
  · rw [Chan.upFrom_eq, count_gated_off only.1 ok closed]
  · rfl

variable (gate : s.gateOK n = some true) (hit : active s n = true)
include gate hit

theorem event_count {v : Word} (cnt : s.cnt.get n = .known v) (between : countsToGo (modeUp (s.modeVal n)) v ≠ 0) :
    countEvent active s = .ok (s.setCnt n (.known (stepValue (modeUp (s.modeVal n)) v))) := by
  have ticking : Ticking s.gates s n := ⟨only.1, ok, gates_eq_true.mpr gate, by rw [cnt]; rfl⟩
  have val : (s.cnt.get n).val = v := congrArg Reg16.val cnt
  rw [countEvent_only test only ok (by simp [gate]), if_pos hit, Chan.upFrom_eq,
    count_step ticking (by rwa [val, Ne, eq_lastCount_iff]), val]

theorem event_terminal {v : Word} (cnt : s.cnt.get n = .known v) (last : countsToGo (modeUp (s.modeVal n)) v = 0)
    (loadable : Loadable s n) : countEvent active s = .ok (afterTerminal n s) := by
  have ticking : Ticking s.gates s n := ⟨only.1, ok, gates_eq_true.mpr gate, by rw [cnt]; rfl⟩
  have val : (s.cnt.get n).val = v := congrArg Reg16.val cnt
  rw [countEvent_only test only ok (by simp [gate]), if_pos hit,
    count_terminal_only only ticking (by rwa [val, eq_lastCount_iff]) loadable]

end Alone

/-! ### What a terminal count shows (R128) -/

section AfterTerminal

variable {s : State} {n : Chan}

theorem afterTerminal_toggle (h : modeOC (s.modeVal n) = enc.ocToggle) :
    (afterTerminal n s).tgl = s.tgl.set n { level := !(s.tgl.get n).level, known := (s.tgl.get n).known } ∧
    (afterTerminal n s).history = s.history := by
  rw [afterTerminal, h, decide_eq_true rfl, Bool.xor_true, if_neg (by decide), List.append_nil]
  exact ⟨rfl, rfl⟩

theorem afterTerminal_pulse (h : modeOC (s.modeVal n) = enc.ocPulse) :
    (afterTerminal n s).tgl = s.tgl ∧ (afterTerminal n s).history = s.history ++ [n] := by
  rw [afterTerminal, h, decide_eq_false (by decide), Bool.xor_false, if_pos rfl]
  exact ⟨PerChan.set_get s.tgl n, rfl⟩

theorem afterTerminal_off (h : modeOC (s.modeVal n) = enc.ocOff) :
    (afterTerminal n s).tgl = s.tgl ∧ (afterTerminal n s).history = s.history := by
  rw [afterTerminal, h, decide_eq_false (by decide), Bool.xor_false, if_neg (by decide), List.append_nil]
  exact ⟨PerChan.set_get s.tgl n, rfl⟩

theorem afterTerminal_armed (armed : s.armed.get n = true) :
    (afterTerminal n s).armed = s.armed.set n (modeRep (s.modeVal n)) := by
  rw [afterTerminal, armed, Bool.and_true]

theorem afterTerminal_cnt {l : Word} (load : s.load.get n = .known l) :
    (afterTerminal n s).cnt = s.cnt.set n (.known (transferValue (modeUp (s.modeVal n)) l)) := by
  rw [afterTerminal, load]
  rfl

/-- A terminal count changes these four fields and no other. -/
theorem afterTerminal_frame (n : Chan) (s : State) :
    afterTerminal n s = { s with
      cnt := (afterTerminal n s).cnt
      tgl := (afterTerminal n s).tgl
      armed := (afterTerminal n s).armed
      history := (afterTerminal n s).history } := rfl

/-- A continuous channel stays armed. -/
theorem afterTerminal_armed_continuous (armed : s.armed.get n = true) (rep : modeRep (s.modeVal n) = true) :
    (afterTerminal n s).armed = s.armed := by
  rw [afterTerminal_armed armed, rep, ← armed, PerChan.set_get]

end AfterTerminal

/-! ### A channel on an external line (R127, R128) -/

/-- `s` with the counter of channel n at v. -/
def withCount (s : State) (n : Chan) (v : Word) : State := { s with cnt := s.cnt.set n (.known v) }

theorem withCount_self {s : State} {n : Chan} {v : Word} (h : s.cnt.get n = .known v) : withCount s n v = s := by
  rw [withCount, ← h, PerChan.set_get]

theorem lineActive_self {s : State} {n k : Chan} (line : modeSrc (s.modeVal n) = lineCode k) :
    lineActive k (modeEdge (s.modeVal n)) s n = true := by
  simp [lineActive, line]

/-- The first `countsToGo` edges each move the counter by one. -/
theorem steps_line_count {s : State} {n k : Chan} {v : Word} (only : OnlyArmed s n) (ok : s.modeOK n = true)
    (gate : modeGC (s.modeVal n) = enc.gcNone) (line : modeSrc (s.modeVal n) = lineCode k)
    (cnt : s.cnt.get n = .known v) {j : Nat} (hj : j ≤ countsToGo (modeUp (s.modeVal n)) v) :
    Steps (.srcEdge k (modeEdge (s.modeVal n))) j s (withCount s n (countedBy (modeUp (s.modeVal n)) v j)) := by
  have path := steps_trajectory (input := .srcEdge k (modeEdge (s.modeVal n))) (b := 1) (k := j)
    (fun i => withCount s n (countedBy (modeUp (s.modeVal n)) v i)) fun i hi => steps_srcEdge fun rest => by
      have between : countsToGo (modeUp (s.modeVal n)) (countedBy (modeUp (s.modeVal n)) v i) ≠ 0 := by
        rw [countsToGo_countedBy (by omega)]
        omega
      have event := event_count (s := (withCount s n (countedBy (modeUp (s.modeVal n)) v i)).withInputs rest)
        (sourceTest_lineActive k (modeEdge (s.modeVal n))) only ok (gateOK_none gate)
        (lineActive_self line) (PerChan.get_set_same _ _ _) between
      rw [srcEdge, event]
      show Except.ok (State.withInputs { s with cnt := (s.cnt.set n _).set n _ } rest) = _
      rw [PerChan.set_set]
      exact congrArg (fun w => Except.ok ((withCount s n w).withInputs rest)) (stepValue_countedBy _ v i)
  rw [Nat.mul_one] at path
  simpa only [countedBy_zero, withCount_self cnt] using path

/-! ### A cascaded pair of up-counters (R125) -/

/-- A continuous up-counter n on line k with load 0, a cascaded up-counter m above it, no other channel armed, and x in the pair. -/
structure WidePair (s : State) (n m k : Chan) (pol : Pol) (x : Nat) : Prop where
  adjacent : n.next? = some m
  armed_n : s.armed.get n = true
  armed_m : s.armed.get m = true
  others : ∀ j, j ≠ n → j ≠ m → s.armed.get j = false
  ok_n : s.modeOK n = true
  ok_m : s.modeOK m = true
  gate_n : modeGC (s.modeVal n) = enc.gcNone
  gate_m : modeGC (s.modeVal m) = enc.gcNone
  line : modeSrc (s.modeVal n) = lineCode k
  edge : modeEdge (s.modeVal n) = pol
  cascade : modeSrc (s.modeVal m) = enc.srcCascade
  up_n : modeUp (s.modeVal n) = true
  up_m : modeUp (s.modeVal m) = true
  rep : modeRep (s.modeVal n) = true
  load : s.load.get n = .known 0#16
  low : s.cnt.get n = .known (BitVec.ofNat 16 x)
  high : s.cnt.get m = .known (BitVec.ofNat 16 (x / 65536))

section WidePair

variable {s : State} {n m k : Chan} {pol : Pol} {x : Nat}

theorem WidePair.withInputs (h : WidePair s n m k pol x) (rest : List Input) : WidePair (s.withInputs rest) n m k pol x :=
  { h with }

/-- An edge of the pair's line is a count of the lower channel. -/
theorem widePair_event (h : WidePair s n m k pol x) : srcEdge k pol s = count n.upFrom s.gates s := by
  have all {P : Chan → Prop} (hn : P n) (hm : P m) (j : Chan) (armed : s.armed.get j = true) : P j := by
    by_cases jn : j = n
    · exact jn ▸ hn
    by_cases jm : j = m
    · exact jm ▸ hm
    simp [h.others j jn jm] at armed
  have silent : lineActive k pol s m = false := by
    rw [← Bool.not_eq_true]
    intro hit
    have notCascaded := not_cascaded_of_lineActive hit
    rw [State.cascaded, h.cascade] at notCascaded
    simp at notCascaded
  refine countEvent_source (sourceTest_lineActive k pol) (all h.ok_n h.ok_m)
    (all (by simp [gateOK_none h.gate_n]) (by simp [gateOK_none h.gate_m])) h.armed_n ?_ fun j jn armed => ?_
  · rw [← h.edge]
    exact lineActive_self h.line
  · exact all (P := fun j => j ≠ n → lineActive k pol s j = false) (fun e => absurd rfl e) (fun _ => silent) j armed jn

theorem widePair_ticking_low (h : WidePair s n m k pol x) : Ticking s.gates s n :=
  ⟨h.armed_n, h.ok_n, gates_eq_true.mpr (gateOK_none h.gate_n), by rw [h.low]; rfl⟩

/-- The state the pair's next edge leaves: the lower counter moves, or its terminal count moves the upper. -/
def widePairNext (s : State) (n m : Chan) (x : Nat) : State :=
  if x % 65536 = 65535 then (afterTerminal n s).setCnt m (.known (BitVec.ofNat 16 (x / 65536 + 1)))
  else s.setCnt n (.known (BitVec.ofNat 16 (x + 1)))

theorem widePair_next (h : WidePair s n m k pol x) (fits : x + 1 < 65536 * 65536) :
    srcEdge k pol s = .ok (widePairNext s n m x) := by
  have val : (s.cnt.get n).val = BitVec.ofNat 16 x := by rw [h.low]; rfl
  have last : (s.cnt.get n).val = lastCount s n ↔ x % 65536 = 65535 := by
    rw [val, eq_lastCount_iff, h.up_n, countsToGo, if_pos rfl, BitVec.toNat_ofNat]
    omega
  obtain ⟨above, -, up⟩ := upFrom_next h.adjacent
  rw [widePair_event h, up, widePairNext]
  split
  · rename_i carry
    have loadable : Loadable s n := loadable_iff.mpr ⟨(Bool.and_eq_true_iff.mp h.ok_n).1, by rw [h.load]; rfl,
      smallLoad_eq_false.mpr (.inl h.up_n)⟩
    have next := uncounted_afterTerminal (Chan.next?_ne h.adjacent) s
    have cascaded : (afterTerminal n s).cascaded m = true := decide_eq_true h.cascade
    have ticking : Ticking s.gates (afterTerminal n s) m :=
      ⟨next.armed.trans h.armed_m, h.ok_m, gates_eq_true.mpr (gateOK_none h.gate_m), by rw [next.cnt, h.high]; rfl⟩
    have val_m : ((afterTerminal n s).cnt.get m).val = BitVec.ofNat 16 (x / 65536) := by rw [next.cnt, h.high]; rfl
    have between : ((afterTerminal n s).cnt.get m).val ≠ lastCount (afterTerminal n s) m := by
      have up_m : modeUp ((afterTerminal n s).modeVal m) = true := h.up_m
      rw [val_m, Ne, eq_lastCount_iff, up_m, countsToGo, if_pos rfl, BitVec.toNat_ofNat]
      omega
    have up_m : modeUp ((afterTerminal n s).modeVal m) = true := h.up_m
    rw [count_terminal (widePair_ticking_low h) (last.mpr carry) (terminalCount_of_loadable loadable), passOn,
      if_pos ⟨ticking.armed, cascaded⟩, count_step ticking between, val_m, up_m, BitVec.ofNat_add]
    rfl
  · rename_i noCarry
    rw [count_step (widePair_ticking_low h) (mt last.mp noCarry), val, h.up_n, BitVec.ofNat_add]
    rfl

theorem widePair_kept (h : WidePair s n m k pol x) : WidePair (widePairNext s n m x) n m k pol (x + 1) := by
  have hne := Chan.next?_ne h.adjacent
  unfold widePairNext
  split
  · have armed := afterTerminal_armed_continuous h.armed_n h.rep
    have cnt_n : (afterTerminal n s).cnt.get n = .known 0#16 := by
      rw [afterTerminal_cnt h.load, h.up_n, PerChan.get_set_same]
      rfl
    refine { h with armed_n := ?_, armed_m := ?_, others := ?_, low := ?_, high := ?_ }
    · rw [setCnt_armed, armed]; exact h.armed_n
    · rw [setCnt_armed, armed]; exact h.armed_m
    · rw [setCnt_armed, armed]; exact h.others
    · rw [setCnt_cnt, PerChan.get_set_ne _ hne.symm, cnt_n]
      congr 1
      bv_omega
    · rw [setCnt_cnt, PerChan.get_set_same]
      congr 2
      omega
  · refine { h with low := ?_, high := ?_ }
    · exact PerChan.get_set_same _ _ _
    · rw [setCnt_cnt, PerChan.get_set_ne _ hne, h.high]
      congr 2
      omega

theorem widePairNext_others {j : Chan} (jn : j ≠ n) (jm : j ≠ m) : (widePairNext s n m x).cnt.get j = s.cnt.get j := by
  unfold widePairNext
  split
  · rw [setCnt_cnt, PerChan.get_set_ne _ jm, (uncounted_afterTerminal jn s).cnt]
  · rw [setCnt_cnt, PerChan.get_set_ne _ jn]

theorem widePairNext_withInputs (rest : List Input) :
    widePairNext (s.withInputs rest) n m x = (widePairNext s n m x).withInputs rest := by
  unfold widePairNext
  split <;> rfl

theorem steps_widePair {e : Nat} (h : WidePair s n m k pol x) (fits : x + e < 65536 * 65536) :
    ∃ u, Steps (.srcEdge k pol) e s u ∧ WidePair u n m k pol (x + e) ∧
      ∀ j, j ≠ n → j ≠ m → u.cnt.get j = s.cnt.get j := by
  induction e with
  | zero => exact ⟨s, steps_refl _ s, h, fun _ _ _ => rfl⟩
  | succ e ih =>
    obtain ⟨u, path, pair, same⟩ := ih (by omega)
    have edge : Steps (.srcEdge k pol) 1 u (widePairNext u n m (x + e)) := steps_srcEdge fun rest => by
      rw [widePair_next (pair.withInputs rest) (by omega), widePairNext_withInputs]
    exact ⟨_, path.trans edge, widePair_kept pair, fun j jn jm => (widePairNext_others jn jm).trans (same j jn jm)⟩

end WidePair

/-! ### A channel on a tap (R121, R122) -/

/-- `s` with the prescaler d ticks on. -/
def ahead (s : State) (d : Nat) : State := { s with psc := s.psc + BitVec.ofNat 16 d }

theorem ahead_ahead (s : State) (a b : Nat) : ahead (ahead s a) b = ahead s (a + b) := by
  simp only [ahead, BitVec.ofNat_add, BitVec.add_assoc]

theorem ahead_zero (s : State) : ahead s 0 = s := by
  simp [ahead]

/-- Ticks that change nothing but the prescaler. -/
theorem steps_quiet {s : State} {d : Nat}
    (h : ∀ i, i < d → ∀ rest, countEvent tickActive ((ahead s (i + 1)).withInputs rest) =
      .ok ((ahead s (i + 1)).withInputs rest)) : Steps .clkTick d s (ahead s d) := by
  have path := steps_trajectory (input := .clkTick) (b := 1) (ahead s) fun i hi => steps_clkTick fun rest => by
    show countEvent tickActive ((ahead (ahead s i) 1).withInputs rest) = _
    rw [ahead_ahead]
    exact h i hi rest
  rwa [Nat.mul_one, ahead_zero] at path

theorem tickActive_tap {s : State} {n : Chan} {k : Tap} (tap : modeSrc (s.modeVal n) = k.code) :
    tickActive s n = tapEdge s.psc k (modeEdge (s.modeVal n)) := by
  rw [tickActive, tap, tapOfCode_code]

/-- Channel n, alone armed and gated on, has tap F_k as its source, and the prescaler is just at one of its active edges. -/
structure OnTap (s : State) (n : Chan) (k : Tap) : Prop where
  only : OnlyArmed s n
  ok : s.modeOK n = true
  gate : s.gateOK n = some true
  tap : modeSrc (s.modeVal n) = k.code
  edge : tapEdge s.psc k (modeEdge (s.modeVal n)) = true

section Tap

variable {s : State} {n : Chan} {k : Tap} (h : OnTap s n k)
include h

theorem OnTap.active (d : Nat) : tickActive (ahead s d) n = true ↔ k.ratio ∣ d := by
  rw [tickActive_tap (s := ahead s d) h.tap]
  exact tapEdge_after h.edge d

/-- Whole periods on, and with another count in the counter, the channel is again at an active edge. -/
theorem OnTap.later (j : Nat) (v : Word) : OnTap (withCount (ahead s (j * k.ratio)) n v) n k where
  only := h.only
  ok := h.ok
  gate := h.gate
  tap := h.tap
  edge := (tapEdge_after h.edge _).mpr (Nat.dvd_mul_left k.ratio j)

/-- One period: ticks that are no edge, and then the edge, which is an event of the channel. -/
theorem steps_period {t : State}
    (event : ∀ rest, countEvent tickActive ((ahead s k.ratio).withInputs rest) = .ok (t.withInputs rest)) :
    Steps .clkTick k.ratio s t := by
  have pos := Tap.ratio_pos k
  have quiet : Steps .clkTick (k.ratio - 1) s (ahead s (k.ratio - 1)) := steps_quiet fun i hi rest => by
    have miss : tickActive ((ahead s (i + 1)).withInputs rest) n = false :=
      Bool.eq_false_iff.mpr fun hit => Nat.not_dvd_of_pos_of_lt (by omega) (by omega) ((h.active (i + 1)).mp hit)
    have gate : (((ahead s (i + 1)).withInputs rest).gateOK n).isSome = true := Option.isSome_iff_exists.mpr ⟨true, h.gate⟩
    exact event_miss sourceTest_tickActive h.only h.ok gate miss
  have edge : Steps .clkTick 1 (ahead s (k.ratio - 1)) t := steps_clkTick fun rest => by
    show countEvent tickActive ((ahead (ahead s (k.ratio - 1)) 1).withInputs rest) = _
    rw [ahead_ahead, Nat.sub_add_cancel pos]
    exact event rest
  have path := quiet.trans edge
  rwa [Nat.sub_add_cancel pos] at path

/-- A period before the terminal count moves the counter by one. -/
theorem steps_period_count {v : Word} (cnt : s.cnt.get n = .known v)
    (between : countsToGo (modeUp (s.modeVal n)) v ≠ 0) :
    Steps .clkTick k.ratio s (withCount (ahead s k.ratio) n (stepValue (modeUp (s.modeVal n)) v)) :=
  steps_period h fun rest => event_count (s := (ahead s k.ratio).withInputs rest) sourceTest_tickActive h.only h.ok h.gate
    ((h.active k.ratio).mpr dvd_rfl) cnt between

theorem steps_period_terminal {v : Word} (cnt : s.cnt.get n = .known v)
    (last : countsToGo (modeUp (s.modeVal n)) v = 0) (loadable : Loadable s n) :
    Steps .clkTick k.ratio s (afterTerminal n (ahead s k.ratio)) :=
  steps_period h fun rest => event_terminal (s := (ahead s k.ratio).withInputs rest) sourceTest_tickActive h.only h.ok h.gate
    ((h.active k.ratio).mpr dvd_rfl) cnt last ⟨loadable.mode, loadable.load, loadable.fits⟩

/-- The first `countsToGo` periods each move the counter by one. -/
theorem steps_periods {v : Word} (cnt : s.cnt.get n = .known v) {j : Nat}
    (hj : j ≤ countsToGo (modeUp (s.modeVal n)) v) :
    Steps .clkTick (j * k.ratio) s
      (withCount (ahead s (j * k.ratio)) n (countedBy (modeUp (s.modeVal n)) v j)) := by
  have path := steps_trajectory (input := .clkTick) (b := k.ratio) (k := j)
    (fun i => withCount (ahead s (i * k.ratio)) n (countedBy (modeUp (s.modeVal n)) v i)) fun i hi => by
      have between : countsToGo (modeUp (s.modeVal n)) (countedBy (modeUp (s.modeVal n)) v i) ≠ 0 := by
        rw [countsToGo_countedBy (by omega)]
        omega
      have period := steps_period_count (h.later i (countedBy (modeUp (s.modeVal n)) v i)) (PerChan.get_set_same _ _ _)
        between
      have next : withCount (ahead (withCount (ahead s (i * k.ratio)) n (countedBy (modeUp (s.modeVal n)) v i)) k.ratio) n
          (stepValue (modeUp (s.modeVal n)) (countedBy (modeUp (s.modeVal n)) v i)) =
          withCount (ahead s ((i + 1) * k.ratio)) n (countedBy (modeUp (s.modeVal n)) v (i + 1)) := by
        rw [stepValue_countedBy, Nat.succ_mul, ← ahead_ahead]
        exact congrArg (fun f => { ahead (ahead s (i * k.ratio)) k.ratio with cnt := f }) (PerChan.set_set s.cnt n _ _)
      rw [← next]
      exact period
  simpa only [Nat.zero_mul, ahead_zero, countedBy_zero, withCount_self cnt] using path

/-- `countsToGo` periods and one more: the terminal count. -/
theorem steps_to_terminal {v l : Word} (cnt : s.cnt.get n = .known v) (load : s.load.get n = .known l)
    (loadable : Loadable s n) (rep : modeRep (s.modeVal n) = true) :
    Steps .clkTick ((countsToGo (modeUp (s.modeVal n)) v + 1) * k.ratio) s
      { ahead s ((countsToGo (modeUp (s.modeVal n)) v + 1) * k.ratio) with
        cnt := s.cnt.set n (.known (transferValue (modeUp (s.modeVal n)) l))
        tgl := (afterTerminal n s).tgl
        history := (afterTerminal n s).history } := by
  let c := countsToGo (modeUp (s.modeVal n)) v
  let t := withCount (ahead s (c * k.ratio)) n (countedBy (modeUp (s.modeVal n)) v c)
  have last : countsToGo (modeUp (s.modeVal n)) (countedBy (modeUp (s.modeVal n)) v c) = 0 := by
    rw [countsToGo_countedBy le_rfl, Nat.sub_self]
  have terminal := steps_period_terminal (h.later c _) (PerChan.get_set_same s.cnt n _) last
    ⟨loadable.mode, loadable.load, loadable.fits⟩
  have reached : afterTerminal n (ahead t k.ratio) = { ahead s ((c + 1) * k.ratio) with
      cnt := s.cnt.set n (.known (transferValue (modeUp (s.modeVal n)) l))
      tgl := (afterTerminal n s).tgl
      history := (afterTerminal n s).history } := by
    have cnt : (afterTerminal n (ahead t k.ratio)).cnt = s.cnt.set n (.known (transferValue (modeUp (s.modeVal n)) l)) :=
      (afterTerminal_cnt (s := ahead t k.ratio) load).trans (PerChan.set_set s.cnt n _ _)
    have armed := afterTerminal_armed_continuous (s := ahead t k.ratio) h.only.1 rep
    rw [afterTerminal_frame, cnt, armed, Nat.succ_mul, ← ahead_ahead]
    rfl
  rw [← reached, Nat.succ_mul]
  exact (steps_periods h cnt le_rfl).trans terminal

end Tap

/-- The gate of a channel wired to its own toggle output is its latch. -/
theorem gateOK_self {s : State} {n : Chan} {b : Bool} (ok : s.modeOK n = true)
    (wire : s.plat.gateWire.get n = .out n) (gate : modeGC (s.modeVal n) = enc.gcHigh)
    (toggle : modeOC (s.modeVal n) = enc.ocToggle) (latch : s.tgl.get n = .is b) : s.gateOK n = some b := by
  have specified : (s.mode.get n).specified = true := (Bool.and_eq_true_iff.mp ok).1
  rw [State.gateOK, gate, gateLine_out wire, State.outLine, latch, outLevel_toggle specified toggle]
  exact gatePass_high (some b)

theorem countsToGo_transferValue (l : Word) :
    countsToGo false (transferValue false l) + 1 = if l = 0#16 then 65536 else l.toNat + 1 := by
  rw [transferValue]
  by_cases zero : l = 0#16 <;> simp [countsToGo, zero]

end Sys2Proof.Machine

namespace Sys2Proof.Proofs

open Sys2Proof.Machine Sys2Proof.Claims

/-- Settles O46: `countsToGo` edges bring the counter to its last value, and the edge after them is a terminal count. -/
theorem terminalCountComesOnTheNextEvent : Obligations.TerminalCountComesOnTheNextEvent := by
  intro s n k v l only ok gate line cnt load up edge
  refine ⟨fun j hj => (steps_line_count only ok gate line cnt hj).run, ?_⟩
  have loadable : Loadable s n := loadable_iff.mpr ⟨(Bool.and_eq_true_iff.mp ok).1, by rw [load]; rfl,
    smallLoad_eq_false.mpr (.inr (.inl (not_tapped_of_line line)))⟩
  let t := withCount s n (countedBy up v (countsToGo up v))
  have last : Steps edge 1 t (afterTerminal n t) := steps_srcEdge fun rest =>
    event_terminal (s := t.withInputs rest) (sourceTest_lineActive k (modeEdge (s.modeVal n))) only ok (gateOK_none gate)
      (lineActive_self line) (PerChan.get_set_same _ _ _)
      (by show countsToGo up (countedBy up v _) = 0; rw [countsToGo_countedBy le_rfl, Nat.sub_self])
      ⟨loadable.mode, loadable.load, loadable.fits⟩
  refine ⟨_, ((steps_line_count only ok gate line cnt le_rfl).trans last).run, ?_, afterTerminal_toggle (s := t),
    afterTerminal_pulse (s := t), afterTerminal_off (s := t), afterTerminal_armed (s := t) only.1, rfl⟩
  rw [afterTerminal_cnt (s := t) load]
  exact PerChan.set_set s.cnt n _ _

/-- Settles O49, by induction on the edges: each is one step of the pair, whose value x determines both counters. -/
theorem cascadedPairIsOneWideCounter : Obligations.CascadedPairIsOneWideCounter := by
  intro s n m k a b e adjacent armed_n armed_m others ok_n ok_m gate_n gate_m line cascade up_n up_m rep cnt_n cnt_m load fits
  have low : s.cnt.get n = .known (BitVec.ofNat 16 (b.toNat * 65536 + a.toNat)) := by
    rw [cnt_n]
    congr 1
    bv_omega
  have high : s.cnt.get m = .known (BitVec.ofNat 16 ((b.toNat * 65536 + a.toNat) / 65536)) := by
    rw [cnt_m]
    congr 1
    bv_omega
  obtain ⟨u, path, pair, same⟩ := steps_widePair (e := e)
    ⟨adjacent, armed_n, armed_m, others, ok_n, ok_m, gate_n, gate_m, line, rfl, cascade, up_n, up_m, rep, load, low, high⟩ fits
  refine ⟨u, path.run, _, _, pair.low, pair.high, ?_, same⟩
  rw [BitVec.toNat_ofNat, BitVec.toNat_ofNat]
  omega

/-- Settles O48: `l + 1` periods end in a terminal count, which leaves everything as it was but for the pulse and the prescaler, so that
the same holds again. -/
theorem continuousTapPeriod : Obligations.ContinuousTapPeriod := by
  intro s n k l j only ok gate tap down rep pulse cnt load fits edge ticks
  have small : l ≠ 1#16 ∧ l ≠ 2#16 := by
    constructor <;> rintro rfl <;> simp at fits
  have loadable : Loadable s n := loadable_iff.mpr ⟨(Bool.and_eq_true_iff.mp ok).1, by rw [load]; rfl,
    smallLoad_eq_false.mpr (.inr (.inr (by rwa [load])))⟩
  have full : s.cnt.get n = .known (transferValue false l) := by
    rw [cnt, transferValue]
    simp
  let period := (if l = 0#16 then 65536 else l.toNat + 1) * k.ratio
  let f (i : Nat) : State := { ahead s (i * period) with history := s.history ++ List.replicate i n }
  have path := steps_trajectory (input := .clkTick) (b := period) (k := j) f fun i _ => by
    have onTap : OnTap (f i) n k := ⟨only, ok, gateOK_none gate, tap,
      (tapEdge_after edge _).mpr (dvd_mul_of_dvd_right (Nat.dvd_mul_left _ _) i)⟩
    have round := steps_to_terminal onTap full load ⟨loadable.mode, loadable.load, loadable.fits⟩ rep
    have down' : modeUp ((f i).modeVal n) = false := down
    have same : (f i).cnt.set n (.known (transferValue false l)) = s.cnt := by
      rw [← full]
      exact PerChan.set_get s.cnt n
    obtain ⟨latches, pulses⟩ := afterTerminal_pulse (s := f i) pulse
    rw [down', countsToGo_transferValue, same, latches, pulses] at round
    have next : { ahead (f i) period with cnt := s.cnt, tgl := (f i).tgl, history := (f i).history ++ [n] } = f (i + 1) := by
      simp only [f, Nat.succ_mul, ← ahead_ahead, List.replicate_succ', ← List.append_assoc]
      rfl
    rw [← next]
    exact round
  have start : f 0 = s := by
    simp only [f, Nat.zero_mul, ahead_zero, List.replicate_zero, List.append_nil]
  rw [start] at path
  exact path.run

/-- Settles O50: the timer's first terminal count drops its output, which is its gate. -/
theorem selfGatedTimerRunsOnceAndStops : Obligations.SelfGatedTimerRunsOnceAndStops := by
  intro s n v l d only ok wire gate tap down rep toggle latch cnt load one two ticks
  have loadable : Loadable s n := loadable_iff.mpr ⟨(Bool.and_eq_true_iff.mp ok).1, by rw [load]; rfl,
    smallLoad_eq_false.mpr (.inr (.inr (by rw [load]; exact ⟨one, two⟩)))⟩
  have edge (psc : Word) (pol : Pol) : tapEdge psc .f1 pol = true := by
    rw [tapEdge_now]
    exact one_dvd _
  have onTap : OnTap s n .f1 := ⟨only, ok, gateOK_self ok wire gate toggle latch, tap, edge _ _⟩
  have round := steps_to_terminal onTap cnt load loadable rep
  obtain ⟨latches, pulses⟩ := afterTerminal_toggle (s := s) toggle
  rw [down, latches, pulses, latch, Tap.ratio, Tap.num, pow_zero, Nat.mul_one] at round
  let t : State := { ahead s (v.toNat + 1) with
    cnt := s.cnt.set n (.known (transferValue false l))
    tgl := s.tgl.set n (.is false) }
  have closed : t.gateOK n = some false := gateOK_self (s := t) ok wire gate toggle (PerChan.get_set_same _ _ _)
  have still : Steps .clkTick d t (ahead t d) := steps_quiet fun i _ rest =>
    event_gated_off (s := (ahead t (i + 1)).withInputs rest) sourceTest_tickActive only ok closed
  have final : ahead t d = { s with
      psc := s.psc + BitVec.ofNat 16 ticks
      cnt := s.cnt.set n (.known (transferValue false l))
      tgl := s.tgl.set n (.is false) } := by
    simp only [ticks, BitVec.ofNat_add _ d, ← BitVec.add_assoc]
    rfl
  rw [← final]
  exact (Steps.trans round still).run

end Sys2Proof.Proofs

/-! ## Divider selection (43_divider_selection.md)

Which tap each selector takes, as a largest and a smallest one of the five; when the selectors return; the bits that merging a tap
changes; then the statements about the selectors. -/

namespace Sys2Proof.Machine

/-! ### Scaled counts (R152) -/

theorem Tap.mem_all (k : Tap) : k ∈ Tap.all := by cases k <;> decide

theorem Tap.num_injective {j k : Tap} : j.num = k.num ↔ j = k := by cases j <;> cases k <;> decide

theorem Tap.num_bounds (k : Tap) : 1 ≤ k.num ∧ k.num ≤ 5 := by cases k <;> decide

theorem Tap.exists_num {n : Nat} (one : 1 ≤ n) (five : n ≤ 5) : ∃ k : Tap, k.num = n := by
  interval_cases n
  · exact ⟨.f1, rfl⟩
  · exact ⟨.f2, rfl⟩
  · exact ⟨.f3, rfl⟩
  · exact ⟨.f4, rfl⟩
  · exact ⟨.f5, rfl⟩

theorem Tap.eq_f5_of_not_lt {k : Tap} (h : ¬k.num < 5) : k = .f5 :=
  Tap.num_injective.mp (le_antisymm (Tap.num_bounds k).2 (not_lt.mp h))

theorem scaled_f1 (t : Nat) : scaled t .f1 = t := Nat.div_one t

theorem scaled_f5 (t : Nat) : scaled t .f5 = t / 65536 := rfl

theorem scaled_mono {t t' : Nat} (h : t ≤ t') (k : Tap) : scaled t k ≤ scaled t' k := Nat.div_le_div_right h

/-- A larger tap gives a smaller count. -/
theorem scaled_antitone (t : Nat) {j k : Tap} (h : j.num ≤ k.num) : scaled t k ≤ scaled t j :=
  Nat.div_le_div_left (Nat.pow_le_pow_right (by decide) (by omega)) (Tap.ratio_pos j)

/-- The next tap divides by 16 once more. -/
theorem scaled_next (t : Nat) {j k : Tap} (h : k.num = j.num + 1) : scaled t k = scaled t j / 16 := by
  have one := (Tap.num_bounds j).1
  rw [scaled, scaled, Nat.div_div_eq_div_mul, Tap.ratio, Tap.ratio, ← pow_succ]
  congr 2
  omega

/-- The taps stand in the order of their numbers. -/
theorem tapAll_sorted (p : Tap → Bool) : (Tap.all.filter p).Pairwise fun j k => j.num < k.num :=
  List.Pairwise.filter p (by decide)

/-! ### The duty-cycle selector's tap (R153) -/

/-- The tap taken exceeds the threshold and no larger one does, or it is tap 1 and none does. -/
theorem dutyTap_cases (t : Nat) :
    (dutyThreshold < scaled t (dutyTap t) ∧ ∀ j : Tap, (dutyTap t).num < j.num → scaled t j ≤ dutyThreshold) ∨
    (dutyTap t = .f1 ∧ ∀ j, scaled t j ≤ dutyThreshold) := by
  have mem (j : Tap) : j ∈ dutyTaps t ↔ dutyThreshold < scaled t j := by
    rw [dutyTaps, List.mem_filter, decide_eq_true_iff]
    exact and_iff_right (Tap.mem_all j)
  rcases List.eq_nil_or_concat (dutyTaps t) with none | ⟨lower, k, split⟩
  · refine .inr ⟨by rw [dutyTap, none]; rfl, fun j => ?_⟩
    by_contra above
    have := (mem j).mpr (by omega)
    rw [none] at this
    cases this
  · have taken : dutyTap t = k := by rw [dutyTap, split, List.concat_eq_append, List.getLast?_concat]; rfl
    have sorted : (dutyTaps t).Pairwise fun j k => j.num < k.num := tapAll_sorted _
    rw [split, List.concat_eq_append, List.pairwise_append] at sorted
    rw [taken]
    refine .inl ⟨(mem k).mp (by rw [split]; simp), fun j hj => ?_⟩
    by_contra above
    have hmem := (mem j).mpr (by omega)
    rw [split, List.concat_eq_append, List.mem_append, List.mem_singleton] at hmem
    rcases hmem with lower | rfl
    · have := sorted.2.2 j lower k List.mem_cons_self
      omega
    · omega

/-- Below 2^32 ticks the scaled count fits in 16 bits: tap 5 divides by 65536, and under any other tap taken it is below 128. -/
theorem scaled_dutyTap_le {t : Nat} (h : t < 65536 * 65536) : scaled t (dutyTap t) ≤ maxCount := by
  rcases dutyTap_cases t with ⟨-, larger⟩ | ⟨-, all⟩
  · by_cases below : (dutyTap t).num < 5
    · obtain ⟨j, hj⟩ := Tap.exists_num (n := (dutyTap t).num + 1) (by omega) below
      have small := larger j (by omega)
      rw [scaled_next t hj, dutyThreshold] at small
      rw [maxCount]
      omega
    · rw [Tap.eq_f5_of_not_lt below, scaled_f5, maxCount]
      omega
  · have := all (dutyTap t)
    rw [dutyThreshold] at this
    rw [maxCount]
    omega

/-- From 2^32 ticks on tap 5 is taken and its count does not fit. -/
theorem scaled_dutyTap_gt {t : Nat} (h : 65536 * 65536 ≤ t) : maxCount < scaled t (dutyTap t) := by
  have top : maxCount < scaled t .f5 := by
    rw [scaled_f5, maxCount]
    omega
  rw [maxCount] at top ⊢
  rcases dutyTap_cases t with ⟨-, larger⟩ | ⟨-, all⟩
  · by_cases below : (dutyTap t).num < 5
    · have := larger .f5 below
      rw [dutyThreshold] at this
      omega
    · rwa [Tap.eq_f5_of_not_lt below]
  · have := all .f5
    rw [dutyThreshold] at this
    omega

/-! ### The accuracy selector's tap (R154) -/

/-- The tap taken is the smallest under which the count fits in 16 bits. -/
theorem accuracyTap_smallest {t : Nat} {k : Tap} (h : (accuracyTaps t).head? = some k) :
    scaled t k ≤ maxCount ∧ ∀ j : Tap, j.num < k.num → maxCount < scaled t j := by
  have mem (j : Tap) : j ∈ accuracyTaps t ↔ scaled t j ≤ maxCount := by
    rw [accuracyTaps, List.mem_filter, decide_eq_true_iff]
    exact and_iff_right (Tap.mem_all j)
  obtain ⟨rest, split⟩ := List.head?_eq_some_iff.mp h
  have sorted : (accuracyTaps t).Pairwise fun j k => j.num < k.num := tapAll_sorted _
  rw [split, List.pairwise_cons] at sorted
  refine ⟨(mem k).mp (by rw [split]; exact List.mem_cons_self), fun j hj => ?_⟩
  by_contra fits
  have hmem := (mem j).mpr (not_lt.mp fits)
  rw [split, List.mem_cons] at hmem
  rcases hmem with rfl | later
  · omega
  · have := sorted.1 j later
    omega

theorem accuracyTap_none {t : Nat} (h : 65536 * 65536 ≤ t) : (accuracyTaps t).head? = none := by
  rw [List.head?_eq_none_iff, accuracyTaps, List.filter_eq_nil_iff]
  intro k _
  have := scaled_antitone t (j := k) (k := .f5) (Tap.num_bounds k).2
  rw [scaled_f5] at this
  rw [decide_eq_true_iff, maxCount]
  omega

theorem accuracyTap_some {t : Nat} (h : t < 65536 * 65536) : ∃ k, (accuracyTaps t).head? = some k := by
  cases found : (accuracyTaps t).head? with
  | some k => exact ⟨k, rfl⟩
  | none =>
    rw [List.head?_eq_none_iff, accuracyTaps, List.filter_eq_nil_iff] at found
    have := found .f5 (Tap.mem_all _)
    rw [decide_eq_true_iff, scaled_f5, maxCount] at this
    omega

/-- Where a smaller tap does not fit, a tap leaves at least 4096 counts, so at 3 ticks or more the minimum of 3 is never needed. -/
theorem minTimerTicks_le_scaled {t : Nat} {k : Tap} (h : (accuracyTaps t).head? = some k) (three : 3 ≤ t) :
    minTimerTicks ≤ scaled t k := by
  obtain ⟨-, smaller⟩ := accuracyTap_smallest h
  by_cases higher : 1 < k.num
  · obtain ⟨j, hj⟩ := Tap.exists_num (n := k.num - 1) (by omega) (by have := (Tap.num_bounds k).2; omega)
    have big := smaller j (by omega)
    rw [maxCount] at big
    rw [scaled_next t (show k.num = j.num + 1 by omega), minTimerTicks]
    omega
  · obtain rfl : k = .f1 := Tap.num_injective.mp (le_antisymm (not_lt.mp higher) (Tap.num_bounds k).1)
    rwa [scaled_f1]

/-! ### When the selectors return -/

section Selector

variable {α : Type} [Field α] [LinearOrder α] [FloorRing α] {umax : Nat} {clock f seconds : α}

theorem selectDuty_of_ticks (hf : 0 < f) (hc : 0 < clock) (max : ticksOfFrequency clock f ≤ umax)
    (one : 1 ≤ ticksOfFrequency clock f) :
    selectDuty umax clock f =
      if maxCount < scaled (ticksOfFrequency clock f) (dutyTap (ticksOfFrequency clock f)) then .error .frequencyTooLow
      else .ok (dutyTap (ticksOfFrequency clock f),
        scaled (ticksOfFrequency clock f) (dutyTap (ticksOfFrequency clock f))) := by
  rw [selectDuty, if_neg (by simp [hf, hc]), if_neg (by omega), if_neg (by omega)]

theorem selectDuty_eq_ok {k : Tap} {c : Nat} (h : selectDuty umax clock f = .ok (k, c)) :
    1 ≤ ticksOfFrequency clock f ∧ k = dutyTap (ticksOfFrequency clock f) ∧
      c = scaled (ticksOfFrequency clock f) k ∧ c ≤ maxCount := by
  unfold selectDuty at h
  split at h
  · cases h
  · split at h
    · cases h
    · split at h
      · cases h
      · split at h
        · cases h
        · rename_i one fits
          cases h
          exact ⟨not_lt.mp one, rfl, rfl, not_lt.mp fits⟩

theorem selectAccuracy_of_ticks (hc : 0 < clock) (max : ticksOfTime clock seconds ≤ umax) :
    selectAccuracy umax clock seconds =
      ((accuracyTaps (ticksOfTime clock seconds)).head?.elim (.error .timeTooLong) fun k =>
        .ok (k, Max.max minTimerTicks (scaled (ticksOfTime clock seconds) k))) := by
  rw [selectAccuracy, if_neg (not_le.mpr hc), if_neg (not_lt.mpr max)]
  cases (accuracyTaps (ticksOfTime clock seconds)).head? <;> rfl

theorem selectAccuracy_eq_ok {k : Tap} {c : Nat} (h : selectAccuracy umax clock seconds = .ok (k, c)) :
    0 < clock ∧ (accuracyTaps (ticksOfTime clock seconds)).head? = some k ∧
      c = max minTimerTicks (scaled (ticksOfTime clock seconds) k) := by
  unfold selectAccuracy at h
  split at h
  · cases h
  · rename_i hc
    split at h
    · cases h
    · split at h
      · cases h
      · rename_i found
        cases h
        exact ⟨not_le.mp hc, found, rfl⟩

end Selector

/-! ### Merging a tap (R155) -/

theorem getLsbD_mergeDivider (m : Word) (k : Tap) (i : Nat) :
    (mergeDivider m k).getLsbD i = if 8 ≤ i ∧ i < 12 then k.code.getLsbD (i - 8) else m.getLsbD i := by
  by_cases word : i < 16
  · have mask : (0xF#16 <<< enc.posSrc).getLsbD i = decide (8 ≤ i ∧ i < 12) := by
      interval_cases i <;> decide
    rw [mergeDivider, BitVec.getLsbD_or, BitVec.getLsbD_and, BitVec.getLsbD_not, mask, BitVec.getLsbD_shiftLeft,
      BitVec.getLsbD_setWidth]
    show (m.getLsbD i && (decide (i < 16) && !decide (8 ≤ i ∧ i < 12)) ||
      (decide (i < 16) && !decide (i < 8) && (decide (i - 8 < 16) && k.code.getLsbD (i - 8)))) = _
    split
    · rename_i field
      simp [field, word, show ¬i < 8 by omega, show i - 8 < 16 by omega]
    · rename_i outside
      have none : ¬i < 8 → k.code.getLsbD (i - 8) = false := fun h => BitVec.getLsbD_of_ge _ _ (by omega)
      by_cases low : i < 8
      · simp [outside, word, low]
      · simp [outside, word, none low]
  · rw [if_neg (by omega), BitVec.getLsbD_of_ge _ _ (by omega), BitVec.getLsbD_of_ge _ _ (by omega)]

/-- The SRC field of the merged mode is the tap's code. -/
theorem modeSrc_mergeDivider (m : Word) (k : Tap) : modeSrc (mergeDivider m k) = k.code := by
  apply BitVec.eq_of_getLsbD_eq
  intro i hi
  rw [modeSrc_def, BitVec.getLsbD_extractLsb', decide_eq_true hi, Bool.true_and, getLsbD_mergeDivider, if_pos (by omega),
    Nat.add_sub_cancel_left]

theorem dividerOf_mergeDivider (m : Word) (k : Tap) : dividerOf (mergeDivider m k) = .ok k := by
  rw [dividerOf, modeSrc_mergeDivider, tapOfCode_code]

/-! ### The time of a count (R151, R157) -/

theorem cast_ratio {α : Type} [Field α] (k : Tap) : (k.ratio : α) = (16 : α) ^ (k.num - 1) := by
  rw [Tap.ratio, Nat.cast_pow]
  rfl

/-- A scaled count times its ratio is the ticks, but for less than one period. -/
theorem scaled_mul_ratio (t : Nat) (k : Tap) :
    scaled t k * k.ratio ≤ t ∧ t + 1 ≤ scaled t k * k.ratio + k.ratio := by
  have split := Nat.div_add_mod' t k.ratio
  have lt := Nat.mod_lt t (Tap.ratio_pos k)
  rw [scaled]
  omega

/-- The ticks of a time are within half a tick of it. -/
theorem ticksOfTime_bounds {α : Type} [Field α] [LinearOrder α] [IsStrictOrderedRing α] [FloorRing α] {clock : α}
    (hc : 0 < clock) (seconds : α) :
    (ticksOfTime clock seconds : α) ≤ clock * max seconds 0 + 1 / 2 ∧
    clock * max seconds 0 < ticksOfTime clock seconds + 1 / 2 :=
  roundHalfUp_bounds (mul_nonneg hc.le (le_max_right seconds 0))

end Sys2Proof.Machine

namespace Sys2Proof.Proofs

open Sys2Proof.Machine Sys2Proof.Claims

/-- Settles O53, by the two cases of the tap taken: it exceeds the threshold, or it is tap 1 and none does. -/
theorem dutySelectorPicksTheLargestTap : Obligations.DutySelectorPicksTheLargestTap := by
  intro α _ _ _ _ umax clock f
  refine ⟨fun k c h => ?_, fun hf hc one max range => ?_⟩
  · obtain ⟨one, rfl, rfl, fits⟩ := selectDuty_eq_ok h
    refine ⟨?_, fits, rfl, fun above j hj => ?_, fun below => ?_⟩
    · rcases dutyTap_cases (ticksOfFrequency clock f) with ⟨above, -⟩ | ⟨first, -⟩
      · omega
      · rwa [first, scaled_f1]
    · rcases dutyTap_cases (ticksOfFrequency clock f) with ⟨-, larger⟩ | ⟨-, all⟩
      · exact larger j hj
      · exact all j
    · rcases dutyTap_cases (ticksOfFrequency clock f) with ⟨above, -⟩ | ⟨first, -⟩
      · exact absurd below (not_le.mpr above)
      · exact first
  · rw [selectDuty_of_ticks hf hc max one, if_neg (not_lt.mpr (scaled_dutyTap_le range))]
    exact ⟨_, _, rfl⟩

/-- Settles O54: the tap taken is the first of the taps that fit, and below 2^32 ticks tap 5 fits. -/
theorem accuracySelectorPicksTheSmallestTap : Obligations.AccuracySelectorPicksTheSmallestTap := by
  intro α _ _ _ _ umax clock seconds
  refine ⟨fun k c h => ?_, fun hc max range => ?_⟩
  · obtain ⟨-, found, rfl⟩ := selectAccuracy_eq_ok h
    obtain ⟨fits, smaller⟩ := accuracyTap_smallest found
    exact ⟨le_max_left _ _, max_le (by decide) fits, rfl, smaller⟩
  · obtain ⟨k, found⟩ := accuracyTap_some range
    rw [selectAccuracy_of_ticks hc max, found]
    exact ⟨_, _, rfl⟩

/-- Settles O55, check by check of the two selectors. -/
theorem selectorRejections : Obligations.SelectorRejections := by
  intro α _ _ _ _ umax clock f seconds m
  refine ⟨fun h => if_pos h, fun h => if_pos h, fun hf hc excess => ?_, fun hc excess => ?_, fun hf hc zero => ?_,
    fun hf hc range max => ?_, fun hc range max => ?_, fun src => ?_⟩
  · rw [selectDuty, if_neg (by simp [hf, hc]), if_pos excess]
  · rw [selectAccuracy, if_neg (not_le.mpr hc), if_pos excess]
  · rw [selectDuty, if_neg (by simp [hf, hc]), if_neg (by omega), if_pos (by omega)]
  · rw [selectDuty_of_ticks hf hc max (by omega), if_pos (scaled_dutyTap_gt range)]
  · rw [selectAccuracy_of_ticks hc max, accuracyTap_none range]
    rfl
  · have none : tapOfCode (modeSrc m) = none := by
      rw [← Option.not_isSome_iff_eq_none, tapOfCode_isSome_iff, modeSrc_def]
      omega
    rw [dividerOf, none]

/-- Settles O56: more ticks give a larger count under every tap. -/
theorem selectorsAreMonotone : Obligations.SelectorsAreMonotone := by
  intro t t' le
  refine ⟨?_, fun k k' h h' => ?_⟩
  · rcases dutyTap_cases t with ⟨above, -⟩ | ⟨first, -⟩
    · by_contra lower
      have above' : dutyThreshold < scaled t' (dutyTap t) := above.trans_le (scaled_mono le _)
      rcases dutyTap_cases t' with ⟨-, larger⟩ | ⟨-, all⟩
      · exact absurd (larger (dutyTap t) (not_le.mp lower)) (not_le.mpr above')
      · exact absurd (all (dutyTap t)) (not_le.mpr above')
    · rw [first]
      exact (Tap.num_bounds _).1
  · by_contra lower
    have exceeds := (accuracyTap_smallest h).2 k' (not_le.mp lower)
    have fits := (accuracyTap_smallest h').1
    exact absurd (exceeds.trans_le (scaled_mono le k')) (not_lt.mpr fits)

/-- Settles O57: the count times its ratio is less than a period below the ticks, and the ticks are within half a tick of the time. -/
theorem accuracySelectorResolution : Obligations.AccuracySelectorResolution := by
  intro α _ _ _ _ umax clock seconds k c h three
  obtain ⟨hc, found, rfl⟩ := selectAccuracy_eq_ok h
  rw [max_eq_right (minTimerTicks_le_scaled found three), ← cast_ratio]
  obtain ⟨below, above⟩ := scaled_mul_ratio (ticksOfTime clock seconds) k
  have below : (scaled (ticksOfTime clock seconds) k : α) * k.ratio ≤ ticksOfTime clock seconds := by exact_mod_cast below
  have above : (ticksOfTime clock seconds : α) + 1 ≤ scaled (ticksOfTime clock seconds) k * k.ratio + k.ratio := by
    exact_mod_cast above
  obtain ⟨low, high⟩ := ticksOfTime_bounds hc seconds
  have period : (1 : α) ≤ k.ratio := by exact_mod_cast Tap.ratio_pos k
  have time : max seconds 0 = clock * max seconds 0 / clock := (mul_div_cancel_left₀ _ hc.ne').symm
  rw [time, ← sub_div, abs_div, abs_of_pos hc, div_lt_div_iff_of_pos_right hc, abs_lt]
  constructor <;> linarith

/-- Settles O58: bits 11:8 of the merged mode are the code of the tap, and every other bit is that of the mode. -/
theorem mergedDividerReadsBack : Obligations.MergedDividerReadsBack := by
  intro α _ _ _ _ m h k clock
  refine ⟨dividerOf_mergeDivider m k, fun i hi => ?_, fun hc => ?_⟩
  · rw [getLsbD_mergeDivider, if_neg (by omega)]
  · rw [timeOf, if_neg (not_le.mpr hc), dividerOf_mergeDivider, ← cast_ratio]

end Sys2Proof.Proofs
